-- ==== Sys2Proof/Word.lean ====
section
/-! DEFINITION. The word widths of SFAD (spec 00_scope R5, R6; 10_state R20 to R31; 30_encoding R70 to R73)
and the sample triplet (00_scope R12). -/

namespace Sys2Proof

/-- One raw byte of a channel memory's backing store (10_state R31, 20_memory R50). -/
abbrev Byte := BitVec 8

/-- One axis value: the source's two-byte fixed-width integer, moved bit for bit and never computed with
(00_scope R6, 41_devicestate_primitives R116). -/
abbrev S16 := BitVec 16

/-- `u8`, `u16`, `u32` of 00_scope R6. -/
abbrev U8 := BitVec 8
abbrev U16 := BitVec 16
abbrev U32 := BitVec 32

/-- A command word, format `CMD40` (30_encoding R70). -/
abbrev CmdWord := BitVec 40

/-- The five event strobes, format `EVT5` (30_encoding R71). -/
abbrev StrobeWord := BitVec 5

/-- A response word, format `RESP49` (30_encoding R72). -/
abbrev RespWord := BitVec 49

/-- A word of the timer peripheral's port, format `TMR33` (30_encoding R73). -/
abbrev TmrWord := BitVec 33

/-- One synchronised reading of the three axes (00_scope R12, glossary "Sample"). -/
structure Sample where
  x : S16
  y : S16
  z : S16
  deriving DecidableEq, Repr

/-- The three channel memories (10_state R31). -/
inductive Channel where
  | x
  | y
  | z
  deriving DecidableEq, Repr

end Sys2Proof
end

