-- ==== Sys2Proof/Config.lean ====
section
/-! DEFINITION. What an implementation of SFAD fixes (00_scope R5) and the free values: what the spec
leaves open at run time (10_state R32; 30_encoding R71). -/

namespace Sys2Proof

/-- `BAD_COUNT_POLICY`: what `badSampleCount` does at its top value (00_scope R5, 93 U5). -/
inductive BadCountPolicy where
  | saturate
  | wrap
  deriving DecidableEq, Repr

/-- The implementation parameters of 00_scope R5. `SAMPLE_WIDTH` (16) and `RANGE_SET` ({2, 4, 8, 16})
are fixed by that rule and are no fields. -/
structure Params where
  /-- `MAX_CAPACITY`, samples per channel memory. -/
  maxCapacity : Nat
  /-- `MIN_TIMER_PERIOD`, microseconds. -/
  minTimerPeriod : U32
  /-- `MAX_TIMER_PERIOD`, microseconds. -/
  maxTimerPeriod : U32
  /-- `DEFAULT_TIMER_PERIOD`, microseconds. -/
  defaultTimerPeriod : U32
  /-- `DEFAULT_RANGE`. -/
  defaultRange : U8
  /-- `BAD_COUNT_WIDTH`, bits. -/
  badCountWidth : Nat
  /-- `BAD_COUNT_POLICY`. -/
  badCountPolicy : BadCountPolicy
  /-- `HAS_RANGE`. -/
  hasRange : Bool
  /-- `HAS_BAD_SAMPLE_COUNT`. -/
  hasBadSampleCount : Bool
  /-- `START_CLEARS_WHEN_STREAMING`. -/
  startClearsWhenStreaming : Bool
  deriving DecidableEq, Repr

/-- `RANGE_SET`, as a test on a range register's value (00_scope R5). -/
abbrev inRangeSet (r : U8) : Prop := r = 2 ∨ r = 4 ∨ r = 8 ∨ r = 16

/-- The constraints of 00_scope R5: "a parameter set that breaks one is not a configuration of this
hardware". -/
abbrev Params.Legal (p : Params) : Prop :=
  (1 ≤ p.maxCapacity ∧ p.maxCapacity ≤ 65535) ∧
  p.minTimerPeriod ≤ p.maxTimerPeriod ∧
  (p.minTimerPeriod ≤ p.defaultTimerPeriod ∧ p.defaultTimerPeriod ≤ p.maxTimerPeriod) ∧
  inRangeSet p.defaultRange ∧
  (1 ≤ p.badCountWidth ∧ p.badCountWidth ≤ 32)

/-- The values the spec's own vectors use (00_scope R5, column "default"; 95_test_vectors, head).
DESIGN CHOICE (unsafe): the source gives no number for the parameters marked OPEN (log 2). Only
`State.reset` and `decodeTableWord` use this; every other definition takes the parameters as data. -/
def Params.vectors : Params where
  maxCapacity := 512
  minTimerPeriod := 1000
  maxTimerPeriod := 1000000
  defaultTimerPeriod := 5000
  defaultRange := 2
  badCountWidth := 32
  badCountPolicy := .saturate
  hasRange := true
  hasBadSampleCount := true
  startClearsWhenStreaming := false

/-- FREE VALUE. What byte `addr` of a channel memory holds while no `push` has written it, in the
`epoch`-th life of the memories (10_state R32: unspecified after RESET, `init` and `deAllocate`; 93 U4:
any value; log 5). -/
opaque Config.unspecifiedByte : (epoch : Nat) → Channel → (addr : Nat) → Byte

/-- FREE VALUE. Which of several strobes asserted at once is served first, at the `n`-th such choice
(30_encoding R71: a model "should allow every order of the simultaneous events"; log 12). -/
opaque Config.strobeChoice : (n : Nat) → Nat

end Sys2Proof
end

