-- ==== Sys2Proof/Syntax.lean ====
section
/-! DEFINITION. The instructions of SFAD: one constructor per row of spec/opcode_table.json (ten host
commands of format `CMD40`, five events of format `EVT5`, and `RESET`), and the raw inputs they are
decoded from (30_encoding R70, R71, R73, R83). -/

namespace Sys2Proof

/-- The stimuli of the block (00_scope R8). The ten commands come first, in the order of 30_encoding R76.
The payload stands only where the spec gives the command one (R75). -/
inductive Instr where
  /-- STOP_STREAM, opcode `0x00` (42_host_commands R130). -/
  | stopStream
  /-- START_STREAM, opcode `0x01` (R131). -/
  | startStream
  /-- SET_TIMER_PERIOD, opcode `0x02` (R132). -/
  | setTimerPeriod (payload : U32)
  /-- GET_TIMER_PERIOD, opcode `0x03` (R133). -/
  | getTimerPeriod
  /-- SET_RANGE, opcode `0x04` (R134). -/
  | setRange (payload : U32)
  /-- GET_RANGE, opcode `0x05` (R135). -/
  | getRange
  /-- GET_SAMPLE, opcode `0x06` (R136). -/
  | getSample
  /-- GET_MAX_TIMER_PERIOD, opcode `0x07` (R137). -/
  | getMaxTimerPeriod
  /-- GET_MIN_TIMER_PERIOD, opcode `0x08` (R138). -/
  | getMinTimerPeriod
  /-- GET_BAD_SAMPLE_COUNT, opcode `0x09` (R139). -/
  | getBadSampleCount
  /-- The event `CMD(word)`, strobe `ev[0]` (R141): any 40-bit word, recognised or not. -/
  | cmd (word : CmdWord)
  /-- The event `TICK`, strobe `ev[1]` (43_events R160). The operands are the SampleSource's answer, a free
  input of the step (R161), used only if the tick finds `mode` Streaming (30_encoding R81). -/
  | tick (sample : Sample) (bad : Bool)
  /-- The event `DRAIN`, strobe `ev[2]` (43_events R162). -/
  | drain
  /-- The event `INIT(capacity)`, strobe `ev[3]` (43_events R164). -/
  | init (capacity : U16)
  /-- The event `DEALLOC`, strobe `ev[4]` (43_events R165). -/
  | dealloc
  /-- The event `RESET`, input `rst` (70_reset_and_hazards R210). -/
  | reset
  deriving DecidableEq, Repr

/-- One snapshot of the block's input ports (30_encoding R71, R73, R83). The source lines carry the answer
that a `SrcRead` of this snapshot's tick would get. -/
structure Ports where
  rst : Bool
  ev : StrobeWord
  cmd : CmdWord
  initCapacity : U16
  srcX : S16
  srcY : S16
  srcZ : S16
  srcBad : Bool
  deriving DecidableEq, Repr

/-- The five strobes of `EVT5` (30_encoding R71). -/
inductive Strobe where
  | cmdValid
  | tickIrq
  | drainReq
  | initStb
  | deallocStb
  deriving DecidableEq, Repr

/-- What an instruction is encoded as: a `CMD40` word, or a snapshot of the input ports (formats `EVT5`
and `RST1`). -/
inductive Encoded where
  | cmd40 (word : CmdWord)
  | ports (p : Ports)
  deriving DecidableEq, Repr

end Sys2Proof
end

