-- ==== Sys2Proof/WellFormed.lean ====
section
/-! DEFINITION. Which instructions exist in a configuration (30_encoding R78): the two range commands need
`HAS_RANGE`, GET_BAD_SAMPLE_COUNT needs `HAS_BAD_SAMPLE_COUNT`. Every operand value is admitted
(30_encoding R74, R84; 43_events R161, R164). -/

namespace Sys2Proof

/-- `i` is an instruction of a block built with the parameters `p`. -/
def Instr.wellFormed (p : Params) (i : Instr) : Bool :=
  match i with
  | .stopStream => true
  | .startStream => true
  | .setTimerPeriod _ => true
  | .getTimerPeriod => true
  | .setRange _ => p.hasRange
  | .getRange => p.hasRange
  | .getSample => true
  | .getMaxTimerPeriod => true
  | .getMinTimerPeriod => true
  | .getBadSampleCount => p.hasBadSampleCount
  | .cmd _ => true
  | .tick _ _ => true
  | .drain => true
  | .init _ => true
  | .dealloc => true
  | .reset => true

end Sys2Proof
end

