-- ==== Sys2Proof/Decode.lean ====
section
/-! DEFINITION. The decoder and the encoder (30_encoding R70 to R79, R84). Decoding is total: a command
word gives its command or is rejected by name as unrecognised; a snapshot of the input ports gives the one
event its strobes select, or says by name why it selects no single event. -/

namespace Sys2Proof

/-- Why a word or a snapshot names no single instruction. -/
inductive DecodeError where
  /-- Opcodes `0x0A` to `0xFF`, and those of a feature that is absent by build (R77, R78). -/
  | unrecognised (opcode : U8)
  /-- No strobe is asserted: no event (R71). -/
  | noStrobe
  /-- Several strobes at once: several events, taken one at a time (R71). -/
  | severalStrobes
  deriving DecidableEq, Repr

/-! ## Fields of the formats -/

/-- `cmd[39:32]` (R70). -/
def opcodeOf (word : CmdWord) : U8 := word.extractLsb' 32 8

/-- `cmd[31:0]` (R70, R74). -/
def payloadOf (word : CmdWord) : U32 := word.extractLsb' 0 32

/-- `{opcode, payload}` (R70). -/
def cmdWord (opcode : U8) (payload : U32) : CmdWord := opcode ++ payload

/-- The bit of `ev[4:0]` a strobe stands on (R71). -/
def Strobe.bit (k : Strobe) : Nat :=
  match k with
  | .cmdValid => 0
  | .tickIrq => 1
  | .drainReq => 2
  | .initStb => 3
  | .deallocStb => 4

/-- The strobe `k` is asserted in `ev`. -/
def Strobe.isSet (ev : StrobeWord) (k : Strobe) : Bool := ev.getLsbD k.bit

/-- The one-hot `ev` of a strobe (R71). -/
def Strobe.oneHot (k : Strobe) : StrobeWord := BitVec.ofNat 5 (2 ^ k.bit)

/-- All strobes, in the order in which the hardware serves simultaneous ones (R71). -/
def Strobe.serviceOrder : List Strobe := [.tickIrq, .initStb, .deallocStb, .cmdValid, .drainReq]

/-- The strobes asserted in `ev`, in the hardware's order. -/
def strobesOf (ev : StrobeWord) : List Strobe := Strobe.serviceOrder.filter (Strobe.isSet ev)

/-- The `ev` in which exactly the strobes of `ks` are asserted. -/
def strobeWord (ks : List Strobe) : StrobeWord := ks.foldr (fun k ev => k.oneHot ||| ev) 0

/-! ## Decoder -/

/-- The command of a `CMD40` word (R76, R77, R78; 42_host_commands R141). The payload of a command that
takes none is ignored (R75). -/
def decodeCommand (p : Params) (word : CmdWord) : Except DecodeError Instr :=
  let opcode := opcodeOf word
  let payload := payloadOf word
  match opcode.toNat with
  | 0x00 => .ok .stopStream
  | 0x01 => .ok .startStream
  | 0x02 => .ok (.setTimerPeriod payload)
  | 0x03 => .ok .getTimerPeriod
  | 0x04 => if p.hasRange then .ok (.setRange payload) else .error (.unrecognised opcode)
  | 0x05 => if p.hasRange then .ok .getRange else .error (.unrecognised opcode)
  | 0x06 => .ok .getSample
  | 0x07 => .ok .getMaxTimerPeriod
  | 0x08 => .ok .getMinTimerPeriod
  | 0x09 => if p.hasBadSampleCount then .ok .getBadSampleCount else .error (.unrecognised opcode)
  | _ => .error (.unrecognised opcode)

/-- The event a strobe selects, with the operands sampled beside it (R71). -/
def eventOf (k : Strobe) (p : Ports) : Instr :=
  match k with
  | .cmdValid => .cmd p.cmd
  | .tickIrq => .tick ⟨p.srcX, p.srcY, p.srcZ⟩ p.srcBad
  | .drainReq => .drain
  | .initStb => .init p.initCapacity
  | .deallocStb => .dealloc

/-- The event of a snapshot of the ports: RESET overrides every strobe (R71). -/
def decodePorts (p : Ports) : Except DecodeError Instr :=
  if p.rst then .ok .reset
  else
    match strobesOf p.ev with
    | [] => .error .noStrobe
    | [k] => .ok (eventOf k p)
    | _ :: _ :: _ => .error .severalStrobes

/-- Decoding of either format. -/
def decode (p : Params) (e : Encoded) : Except DecodeError Instr :=
  match e with
  | .cmd40 word => decodeCommand p word
  | .ports ports => decodePorts ports

/-! ## Encoder -/

/-- A snapshot with no strobe asserted and every operand line 0. -/
def Ports.quiet : Ports where
  rst := false
  ev := 0
  cmd := 0
  initCapacity := 0
  srcX := 0
  srcY := 0
  srcZ := 0
  srcBad := false

/-- The assembled form of an instruction: a command without payload has payload 0 (R80), an event has its
strobe alone and its operands beside it (R71, R81). -/
def encode (i : Instr) : Encoded :=
  match i with
  | .stopStream => .cmd40 (cmdWord 0x00 0)
  | .startStream => .cmd40 (cmdWord 0x01 0)
  | .setTimerPeriod payload => .cmd40 (cmdWord 0x02 payload)
  | .getTimerPeriod => .cmd40 (cmdWord 0x03 0)
  | .setRange payload => .cmd40 (cmdWord 0x04 payload)
  | .getRange => .cmd40 (cmdWord 0x05 0)
  | .getSample => .cmd40 (cmdWord 0x06 0)
  | .getMaxTimerPeriod => .cmd40 (cmdWord 0x07 0)
  | .getMinTimerPeriod => .cmd40 (cmdWord 0x08 0)
  | .getBadSampleCount => .cmd40 (cmdWord 0x09 0)
  | .cmd word => .ports { Ports.quiet with ev := 0b00001, cmd := word }
  | .tick sample bad =>
    .ports { Ports.quiet with
      ev := 0b00010, srcX := sample.x, srcY := sample.y, srcZ := sample.z, srcBad := bad }
  | .drain => .ports { Ports.quiet with ev := 0b00100 }
  | .init capacity => .ports { Ports.quiet with ev := 0b01000, initCapacity := capacity }
  | .dealloc => .ports { Ports.quiet with ev := 0b10000 }
  | .reset => .ports { Ports.quiet with rst := true }

/-! ## Words of the opcode table

The table has three formats: `CMD40` (40 bits), `EVT5` (5 bits) and `RST1` (1 bit). Padded to whole bytes
the last two share a byte; there the sixth input `rst` (R71) stands on bit 5, above `ev[4:0]` (log 14). -/

/-- The encoded instruction of a word of the opcode table, operand lines above the word at 0. -/
def tableWord (nbits w : Nat) : Option Encoded :=
  if nbits = 40 then some (.cmd40 (BitVec.ofNat 40 w))
  else if nbits = 1 then some (.ports { Ports.quiet with rst := w.testBit 0 })
  else if nbits = 5 ∨ nbits = 8 then
    some (.ports { Ports.quiet with rst := w.testBit 5, ev := BitVec.ofNat 5 w })
  else none

/-- What the decoder reads from a word of the opcode table, in the configuration of `State.reset`. -/
def decodeTableWord (nbits w : Nat) : Option Instr :=
  match tableWord nbits w with
  | none => none
  | some e =>
    match decode Params.vectors e with
    | .ok i => some i
    | .error _ => none

end Sys2Proof
end

