-- ==== Sys2Proof/Machine/State.lean ====
section
/-! DEFINITION. The state of SFAD as plain data (10_state R20 to R41), the reasons a step can stop, and the
state after reset. -/

namespace Sys2Proof.Machine

/-- The operating mode, a two-constructor enumeration as 10_state R24 asks. -/
inductive Mode where
  | stopped
  | streaming
  deriving DecidableEq, Repr

/-- The two execution contexts (00_scope R9, 60_exceptions R190). -/
inductive Context where
  | interrupt
  | foreground
  deriving DecidableEq, Repr

/-- One output transaction (10_state R38). -/
inductive OutTxn where
  /-- The timer peripheral's `initialize(periodMicroseconds)`. -/
  | tmrInit (period : U32)
  /-- The timer peripheral's `setPeriod(periodMicroseconds)`. -/
  | tmrSetPeriod (period : U32)
  /-- One call of SampleSource's `readRawSample()`. -/
  | srcRead
  /-- The transport's `writeValue(integer)`. -/
  | respValue (value : U32)
  /-- The transport's `writeSample(Sample)`. -/
  | respSample (sample : Sample)
  deriving DecidableEq, Repr

/-- The queue primitives that refuse an unallocated queue (60_exceptions R184). -/
inductive QueueOp where
  | push
  | pop
  | size
  | clear
  deriving DecidableEq, Repr

/-- A channel memory: (byte address, byte) pairs with strictly rising addresses. A byte that is not listed
has not been written since the memories were last made unspecified (10_state R31, R32; log 5). -/
abbrev Memory := List Host.Cell

/-- The canonical form: addresses strictly rising. An unlisted byte reads as a free value and not as a
fixed one, so no byte value is excluded. -/
abbrev memWf (m : Memory) : Prop := m.Pairwise (fun a b => a.1 < b.1)

/-- Everything the spec gives the machine (10_state), and four fields of the model's own at the end. -/
structure State where
  /-- CR0 (10_state R24). -/
  mode : Mode
  /-- CR1, microseconds (10_state R25). -/
  timerPeriod : U32
  /-- CR2 (10_state R26). -/
  range : U8
  /-- CR3, `BAD_COUNT_WIDTH` bits, zero-extended (10_state R27; log 16). -/
  badSampleCount : U32
  /-- `q_alloc` (10_state R20). -/
  qAlloc : Bool
  /-- `q_cap` (10_state R20). -/
  qCap : U16
  /-- `q_rd` (10_state R20). -/
  qRd : U16
  /-- `q_cnt` (10_state R20). -/
  qCnt : U16
  /-- Channel memory `X` (10_state R31). -/
  memX : Memory
  /-- Channel memory `Y` (10_state R31). -/
  memY : Memory
  /-- Channel memory `Z` (10_state R31). -/
  memZ : Memory
  /-- `irq_mask` (10_state R35). -/
  irqMask : Bool
  /-- `irq_pending` (10_state R36). -/
  irqPending : Bool
  /-- The execution context (60_exceptions R190). -/
  context : Context
  /-- The output log, oldest first (10_state R38). -/
  log : List OutTxn
  /-- MODEL's own: the implementation parameters (00_scope R5), written by no event (log 1). -/
  params : Params
  /-- MODEL's own: the input snapshots still to be served, next first (log 11). -/
  inbox : List Ports
  /-- MODEL's own: how often the channel memories were made unspecified (log 6). -/
  epoch : Nat
  /-- MODEL's own: how often a choice among simultaneous strobes was made (log 12). -/
  choices : Nat
  deriving DecidableEq, Repr

/-- Why a transaction has no next state. The hardware itself reports nothing: a fault stands for behaviour
the source forbids or calls undefined (60_exceptions R180; 43_events R168). Every one is SAFE: nothing is
provable of what follows. -/
inductive Fault where
  /-- Raised by `push`, `pop`, `size`, `clear` on an unallocated queue: by TICK and DRAIN in Streaming,
  STOP_STREAM, a START_STREAM that clears, GET_SAMPLE (60_exceptions R184). Safe. -/
  | queueNotAllocated (op : QueueOp)
  /-- Raised by `pop` on an empty queue; no event reaches it (60_exceptions R185). Safe. -/
  | queueUnderflow
  /-- Raised by INIT with more than `MAX_CAPACITY` samples (60_exceptions R186). Safe. -/
  | initCapacityTooLarge (capacity : U16)
  /-- The model's own: a channel memory accessed at an index of `MAX_CAPACITY` or above, which does not
  exist (10_state R31); no state that keeps the queue invariants raises it (log 7). Safe. -/
  | noSuchIndex (index : Nat)
  deriving DecidableEq, Repr

/-- Why a step is turned away. -/
inductive Refusal where
  /-- An instruction whose meaning is not written; raised by `exec` alone, by no arm of it now. Safe. -/
  | notModelled (mnemonic : String)
  /-- The parameter set breaks a constraint of 00_scope R5 (93 U6: the model refuses it); raised by
  `step` alone. Safe. -/
  | illegalConfiguration
  deriving DecidableEq, Repr

/-- The state after RESET in the configuration `p` (10_state R41; 70_reset_and_hazards R210 to R213):
every field at the value the table gives it, the log holding the one `TmrInit`. -/
def State.resetWith (p : Params) : State where
  mode := .stopped
  timerPeriod := p.defaultTimerPeriod
  range := p.defaultRange
  badSampleCount := 0
  qAlloc := false
  qCap := 0
  qRd := 0
  qCnt := 0
  memX := []
  memY := []
  memZ := []
  irqMask := false
  irqPending := false
  context := .foreground
  log := [.tmrInit p.defaultTimerPeriod]
  params := p
  inbox := []
  epoch := 0
  choices := 0

/-- The machine right after reset, in the configuration of the spec's own vectors. DESIGN CHOICE (unsafe)
in the OPEN numbers only (log 2). -/
def State.reset : State := State.resetWith Params.vectors

end Sys2Proof.Machine
end

