-- ==== Sys2Proof/Machine/Flags.lean ====
section
/-! DEFINITION. The two conditions computed from the queue's registers and stored nowhere (10_state R22).
The block has no flag register. -/

namespace Sys2Proof.Machine

/-- `empty := (S.q_cnt == 0)` (10_state R22). -/
def State.isEmpty (s : State) : Bool := s.qCnt == 0

/-- `full := (S.q_cnt >= S.q_cap)`, unsigned (10_state R22; 41_devicestate_primitives R116). -/
def State.isFull (s : State) : Bool := decide (s.qCnt ≥ s.qCap)

end Sys2Proof.Machine
end

