-- ==== Sys2Proof/Machine/Operands.lean ====
section
/-! DEFINITION. How operands are read and tested (30_encoding R74; 41_devicestate_primitives R110, R112,
R115, R116) and how results are widened (30_encoding R72). All comparisons are unsigned. -/

namespace Sys2Proof.Machine

/-- The period test of 41_devicestate_primitives R110. -/
def periodAccepted (p : Params) (value : U32) : Bool :=
  decide (p.minTimerPeriod ≤ value) && decide (value ≤ p.maxTimerPeriod)

/-- The membership test of 41_devicestate_primitives R112: all 32 bits compared (30_encoding R74). -/
def rangeAccepted (value : U32) : Bool :=
  value == 2 || value == 4 || value == 8 || value == 16

/-- `value[7:0]` (41_devicestate_primitives R112). -/
def rangeField (value : U32) : U8 := value.extractLsb' 0 8

/-- `zext_32` of the range register (30_encoding R72). -/
def zext32 (v : U8) : U32 := v.zeroExtend 32

/-- `top`, `2^BAD_COUNT_WIDTH - 1` (41_devicestate_primitives R115). -/
def badCountTop (p : Params) : Nat := 2 ^ p.badCountWidth - 1

/-- `minTimerPeriod`, CR4 (10_state R28). -/
def State.minTimerPeriodReg (s : State) : U32 := s.params.minTimerPeriod

/-- `maxTimerPeriod`, CR5 (10_state R28). -/
def State.maxTimerPeriodReg (s : State) : U32 := s.params.maxTimerPeriod

/-- The write index `(q_rd + q_cnt) mod q_cap`, the sum formed without wrapping (20_memory R62;
41_devicestate_primitives R117). Computed only with `q_cap > 0`. -/
def writeIndex (s : State) : Nat := (s.qRd.toNat + s.qCnt.toNat) % s.qCap.toNat

/-- The next read index `(q_rd + 1) mod q_cap` (20_memory R62). Computed only with `q_cap > 0` in every
state that keeps the queue invariants (log 19). -/
def nextReadIndex (s : State) : U16 := BitVec.ofNat 16 ((s.qRd.toNat + 1) % s.qCap.toNat)

end Sys2Proof.Machine
end

