-- ==== Sys2Proof/Machine/Ops.lean ====
section
/-! DEFINITION. The named operations over the channel memories, the queue's registers and DeviceState: the
primitives of 40_queue_primitives and 41_devicestate_primitives, taking the timer interrupt and returning
from it, and RESET's effect. A primitive that can raise a fault answers `Except Fault`. -/

namespace Sys2Proof.Machine

/-! ## Bytes of a channel memory (10_state R31; 20_memory R50) -/

/-- The byte listed at address `a`, if one is. -/
def memRead : Memory → Nat → Option Byte
  | [], _ => none
  | (a', b) :: m, a => if a' = a then some b else memRead m a

/-- Write one byte, keeping the addresses strictly rising. -/
def memWrite : Memory → Nat → Byte → Memory
  | [], a, b => [(a, b)]
  | (a', b') :: m, a, b =>
    if a < a' then (a, b) :: (a', b') :: m
    else if a = a' then (a, b) :: m
    else (a', b') :: memWrite m a b

/-- The channel memory of channel `ch`. -/
def State.channel (s : State) (ch : Channel) : Memory :=
  match ch with
  | .x => s.memX
  | .y => s.memY
  | .z => s.memZ

/-- What byte `a` of channel `ch` reads as: the byte listed, else the free value (10_state R32; log 5). -/
def readByte (s : State) (ch : Channel) (a : Nat) : Byte :=
  match memRead (s.channel ch) a with
  | some b => b
  | none => Config.unspecifiedByte s.epoch ch a

/-! ## Samples of a channel memory (00_scope R7; 20_memory R50, R52) -/

/-- The `s16` at index `idx` of channel `ch`: bytes `2 idx` (low) and `2 idx + 1` (high) (20_memory R50). -/
def readS16 (s : State) (ch : Channel) (idx : Nat) : S16 :=
  readByte s ch (2 * idx + 1) ++ readByte s ch (2 * idx)

/-- Store an `s16` at index `idx` of one channel memory, low byte at `2 idx` (20_memory R50). -/
def storeS16 (m : Memory) (idx : Nat) (v : S16) : Memory :=
  memWrite (memWrite m (2 * idx) (v.extractLsb' 0 8)) (2 * idx + 1) (v.extractLsb' 8 8)

/-- The triplet at index `idx` of the three channels. -/
def readSample (s : State) (idx : Nat) : Sample :=
  ⟨readS16 s .x idx, readS16 s .y idx, readS16 s .z idx⟩

/-- Store a triplet at index `idx` of the three channels. -/
def writeSample (s : State) (idx : Nat) (v : Sample) : State :=
  { s with
    memX := storeS16 s.memX idx v.x
    memY := storeS16 s.memY idx v.y
    memZ := storeS16 s.memZ idx v.z }

/-- `QMemRead` of the three channels at one index (00_scope R7, 20_memory R52). An index of `MAX_CAPACITY`
or above does not exist (10_state R31; log 7). -/
def qMemRead (s : State) (idx : Nat) : Except Fault Sample :=
  if idx < s.params.maxCapacity then .ok (readSample s idx) else .error (.noSuchIndex idx)

/-- `QMemWrite` of the three channels at one index (00_scope R7, 20_memory R52; log 7). -/
def qMemWrite (s : State) (idx : Nat) (v : Sample) : Except Fault State :=
  if idx < s.params.maxCapacity then .ok (writeSample s idx v) else .error (.noSuchIndex idx)

/-- Every index of the three channel memories becomes unspecified (10_state R32). -/
def forgetMemories (s : State) : State :=
  { s with memX := [], memY := [], memZ := [], epoch := s.epoch + 1 }

/-! ## Critical sections and outputs -/

/-- Enter the critical section of one `push` or `pop`: the timer interrupt is masked (10_state R35). -/
def maskIrq (s : State) : State := { s with irqMask := true }

/-- Leave the critical section (10_state R35: false between transactions). -/
def unmaskIrq (s : State) : State := { s with irqMask := false }

/-- `emit`: append one output transaction to the log (00_scope R7, 10_state R38). -/
def emit (o : OutTxn) (s : State) : State := { s with log := s.log ++ [o] }

/-! ## SampleQueue (40_queue_primitives) -/

/-- `init(capacity)` (R90). -/
def queueInit (capacity : U16) (s : State) : Except Fault State :=
  if capacity.toNat > s.params.maxCapacity then .error (.initCapacityTooLarge capacity)
  else .ok (forgetMemories { s with qAlloc := true, qCap := capacity, qRd := 0, qCnt := 0 })

/-- `push(sample)` (R91): append the triplet, or drop it silently when the queue is full; one critical
section. -/
def queuePush (v : Sample) (s : State) : Except Fault State :=
  if s.qAlloc = false then .error (.queueNotAllocated .push)
  else if s.isFull then .ok (unmaskIrq (maskIrq s))
  else
    match qMemWrite (maskIrq s) (writeIndex s) v with
    | .error f => .error f
    | .ok s' => .ok (unmaskIrq { s' with qCnt := s'.qCnt + 1 })

/-- `pop()` (R92): remove and return the oldest triplet; one critical section. -/
def queuePop (s : State) : Except Fault (Sample × State) :=
  if s.qAlloc = false then .error (.queueNotAllocated .pop)
  else if s.isEmpty then .error .queueUnderflow
  else
    match qMemRead (maskIrq s) s.qRd.toNat with
    | .error f => .error f
    | .ok v => .ok (v, unmaskIrq { maskIrq s with qRd := nextReadIndex s, qCnt := s.qCnt - 1 })

/-- `size()` (R93). -/
def queueSize (s : State) : Except Fault U16 :=
  if s.qAlloc = false then .error (.queueNotAllocated .size) else .ok s.qCnt

/-- `clear()` (R94). -/
def queueClear (s : State) : Except Fault State :=
  if s.qAlloc = false then .error (.queueNotAllocated .clear)
  else .ok { s with qRd := 0, qCnt := 0 }

/-- `deAllocate()` (R95). -/
def queueDeAllocate (s : State) : State :=
  forgetMemories { s with qAlloc := false, qCap := 0, qRd := 0, qCnt := 0 }

/-- Read the size and, when it is not 0, pop one triplet and hand it to the transport: steps 1 and 2 of
GET_SAMPLE (42_host_commands R136), steps 2 and 3 of DRAIN (43_events R162). -/
def sendOldest (s : State) : Except Fault State :=
  match queueSize s with
  | .error f => .error f
  | .ok n =>
    if n = 0 then .ok s
    else
      match queuePop s with
      | .error f => .error f
      | .ok (v, s') => .ok (emit (.respSample v) s')

/-! ## DeviceState (41_devicestate_primitives) -/

/-- `setTimerPeriod(value)` (R110): `accepted`, and the state after. -/
def setTimerPeriod (value : U32) (s : State) : Bool × State :=
  if periodAccepted s.params value then
    (true, emit (.tmrSetPeriod value) { s with timerPeriod := value })
  else (false, s)

/-- `getTimerPeriod()` (R111). -/
def getTimerPeriod (s : State) : U32 := s.timerPeriod

/-- `setRange(value)` (R112): `accepted`, and the state after. -/
def setRange (value : U32) (s : State) : Bool × State :=
  if rangeAccepted value then (true, { s with range := rangeField value }) else (false, s)

/-- `getRange()` (R113). -/
def getRange (s : State) : U8 := s.range

/-- `setMode(m)` (R114). -/
def setMode (m : Mode) (s : State) : State := { s with mode := m }

/-- `noteBadSample()` (R115). -/
def noteBadSample (s : State) : State :=
  if s.badSampleCount.toNat < badCountTop s.params then
    { s with badSampleCount := s.badSampleCount + 1 }
  else
    match s.params.badCountPolicy with
    | .wrap => { s with badSampleCount := 0 }
    | .saturate => s

/-! ## The timer interrupt (60_exceptions R187 to R193) -/

/-- Taking the timer interrupt: the pending bit is cleared (R188) and the context becomes interrupt (R190).
Nothing is saved and there is no vector (R192). -/
def takeInterrupt (s : State) : State := { s with irqPending := false, context := .interrupt }

/-- The handler's return: the context becomes foreground again and nothing is restored (R190, R193). -/
def returnFromInterrupt (s : State) : State := { s with context := .foreground }

/-! ## RESET -/

/-- Every field takes the value of 10_state R41 (70_reset_and_hazards R210 to R213); the parameters are no
state, the inputs still to come are the agents', and the memories are unspecified afresh (logs 1, 6, 20). -/
def resetState (s : State) : State :=
  { State.resetWith s.params with
    inbox := s.inbox, epoch := s.epoch + 1, choices := s.choices }

end Sys2Proof.Machine
end

