-- ==== Sys2Proof/Machine/Commands.lean ====
section
/-! DEFINITION. The meanings of the ten host commands (42_host_commands R130 to R139) and of a word that
names none (R140). Each is one atomic transaction in foreground context; a fault of a primitive ends the
whole command with no field written (00_scope R7). -/

namespace Sys2Proof.Machine

/-- The outcome of a transaction whose last primitive can fault. -/
def ofPrimitive (r : Except Fault State) : Host.Outcome State Fault Refusal :=
  match r with
  | .ok s => .next s
  | .error f => .fault f

/-- UNRECOGNISED (R140): ignored, no field changes and nothing is emitted. -/
def ignoreCommand (s : State) : Host.Outcome State Fault Refusal := .next s

/-- STOP_STREAM (R130): `mode <- Stopped`, then `clear()`. -/
def execStopStream (s : State) : Host.Outcome State Fault Refusal :=
  ofPrimitive (queueClear (setMode .stopped s))

/-- START_STREAM (R131): from Stopped, `clear()` then `mode <- Streaming`; from Streaming, nothing, or
`clear()` by the parameter `START_CLEARS_WHEN_STREAMING`. -/
def execStartStream (s : State) : Host.Outcome State Fault Refusal :=
  match s.mode with
  | .stopped =>
    match queueClear s with
    | .ok s' => .next (setMode .streaming s')
    | .error f => .fault f
  | .streaming =>
    if s.params.startClearsWhenStreaming then ofPrimitive (queueClear s) else .next s

/-- SET_TIMER_PERIOD (R132): the setter's result is discarded. -/
def execSetTimerPeriod (payload : U32) (s : State) : Host.Outcome State Fault Refusal :=
  .next (setTimerPeriod payload s).2

/-- GET_TIMER_PERIOD (R133). -/
def execGetTimerPeriod (s : State) : Host.Outcome State Fault Refusal :=
  .next (emit (.respValue (getTimerPeriod s)) s)

/-- SET_RANGE (R134): the setter's result is discarded; unrecognised without `HAS_RANGE` (R78). -/
def execSetRange (payload : U32) (s : State) : Host.Outcome State Fault Refusal :=
  if s.params.hasRange then .next (setRange payload s).2 else ignoreCommand s

/-- GET_RANGE (R135): unrecognised without `HAS_RANGE` (R78). -/
def execGetRange (s : State) : Host.Outcome State Fault Refusal :=
  if s.params.hasRange then .next (emit (.respValue (zext32 (getRange s))) s) else ignoreCommand s

/-- GET_SAMPLE (R136): in either mode; no pop and no response on an empty queue. -/
def execGetSample (s : State) : Host.Outcome State Fault Refusal := ofPrimitive (sendOldest s)

/-- GET_MAX_TIMER_PERIOD (R137). -/
def execGetMaxTimerPeriod (s : State) : Host.Outcome State Fault Refusal :=
  .next (emit (.respValue s.maxTimerPeriodReg) s)

/-- GET_MIN_TIMER_PERIOD (R138). -/
def execGetMinTimerPeriod (s : State) : Host.Outcome State Fault Refusal :=
  .next (emit (.respValue s.minTimerPeriodReg) s)

/-- GET_BAD_SAMPLE_COUNT (R139): the read does not clear; unrecognised without `HAS_BAD_SAMPLE_COUNT`
(R78). -/
def execGetBadSampleCount (s : State) : Host.Outcome State Fault Refusal :=
  if s.params.hasBadSampleCount then .next (emit (.respValue s.badSampleCount) s) else ignoreCommand s

end Sys2Proof.Machine
end

