-- ==== Sys2Proof/Machine/Events.lean ====
section
/-! DEFINITION. The meanings of the events: the command dispatch (42_host_commands R141), TICK and DRAIN
(43_events R160, R162), INIT and DEALLOC (R164, R165), RESET (70_reset_and_hazards R210). Each is one
atomic transaction (20_memory R57). -/

namespace Sys2Proof.Machine

/-- `CMD(word)`: the dispatch of 42_host_commands R141. An absent feature's opcodes are unrecognised. -/
def execCmd (word : CmdWord) (s : State) : Host.Outcome State Fault Refusal :=
  let payload := payloadOf word
  match (opcodeOf word).toNat with
  | 0x00 => execStopStream s
  | 0x01 => execStartStream s
  | 0x02 => execSetTimerPeriod payload s
  | 0x03 => execGetTimerPeriod s
  | 0x04 => if s.params.hasRange then execSetRange payload s else ignoreCommand s
  | 0x05 => if s.params.hasRange then execGetRange s else ignoreCommand s
  | 0x06 => execGetSample s
  | 0x07 => execGetMaxTimerPeriod s
  | 0x08 => execGetMinTimerPeriod s
  | 0x09 => if s.params.hasBadSampleCount then execGetBadSampleCount s else ignoreCommand s
  | _ => ignoreCommand s

/-- Steps 2 to 4 of TICK (43_events R160): read the source, count a bad sample where the counter exists,
push the sample, bad or not. -/
def acquire (sample : Sample) (bad : Bool) (s : State) : Except Fault State :=
  let s1 := emit .srcRead s
  let s2 := if bad && s.params.hasBadSampleCount then noteBadSample s1 else s1
  queuePush sample s2

/-- TICK (43_events R160), the timer interrupt's whole service: taken, gated by `mode`, returned from
(60_exceptions R188 to R193). -/
def execTick (sample : Sample) (bad : Bool) (s : State) : Host.Outcome State Fault Refusal :=
  let s0 := takeInterrupt s
  match s0.mode with
  | .stopped => .next (returnFromInterrupt s0)
  | .streaming =>
    match acquire sample bad s0 with
    | .ok s' => .next (returnFromInterrupt s')
    | .error f => .fault f

/-- DRAIN (43_events R162): `mode` is tested first, then at most one sample is sent. -/
def execDrain (s : State) : Host.Outcome State Fault Refusal :=
  match s.mode with
  | .stopped => .next s
  | .streaming => ofPrimitive (sendOldest s)

/-- INIT(capacity) (43_events R164): DeviceState is untouched, `mode` among it. -/
def execInit (capacity : U16) (s : State) : Host.Outcome State Fault Refusal :=
  ofPrimitive (queueInit capacity s)

/-- DEALLOC (43_events R165): DeviceState is untouched. -/
def execDealloc (s : State) : Host.Outcome State Fault Refusal := .next (queueDeAllocate s)

/-- RESET (70_reset_and_hazards R210 to R213). -/
def execReset (s : State) : Host.Outcome State Fault Refusal := .next (resetState s)

end Sys2Proof.Machine
end

