-- ==== Sys2Proof/Machine/Dispatch.lean ====
section
/-! DEFINITION. One arm per constructor of `Instr`, each one direct call of its meaning. -/

namespace Sys2Proof.Machine

def exec (i : Instr) (s : State) : Host.Outcome State Fault Refusal :=
  match i with
  | .stopStream => Sys2Proof.Machine.execStopStream s
  | .startStream => Sys2Proof.Machine.execStartStream s
  | .setTimerPeriod payload => Sys2Proof.Machine.execSetTimerPeriod payload s
  | .getTimerPeriod => Sys2Proof.Machine.execGetTimerPeriod s
  | .setRange payload => Sys2Proof.Machine.execSetRange payload s
  | .getRange => Sys2Proof.Machine.execGetRange s
  | .getSample => Sys2Proof.Machine.execGetSample s
  | .getMaxTimerPeriod => Sys2Proof.Machine.execGetMaxTimerPeriod s
  | .getMinTimerPeriod => Sys2Proof.Machine.execGetMinTimerPeriod s
  | .getBadSampleCount => Sys2Proof.Machine.execGetBadSampleCount s
  | .cmd word => Sys2Proof.Machine.execCmd word s
  | .tick sample bad => Sys2Proof.Machine.execTick sample bad s
  | .drain => Sys2Proof.Machine.execDrain s
  | .init capacity => Sys2Proof.Machine.execInit capacity s
  | .dealloc => Sys2Proof.Machine.execDealloc s
  | .reset => Sys2Proof.Machine.execReset s

end Sys2Proof.Machine
end

