-- ==== Sys2Proof/Machine/Fetch.lean ====
section
/-! DEFINITION. How the next event is taken from the inputs (30_encoding R71; 43_events R166;
60_exceptions R188, R191): one event per step, the timer's tick latched while another transaction is
served, a free choice among simultaneous strobes (logs 9, 11, 12). The block fetches no instruction
(10_state R21). -/

namespace Sys2Proof.Machine

/-- A tick waits to be served: it is strobed, or held pending (10_state R36). Two of them are one. -/
def tickWaiting (s : State) (p : Ports) : Bool := Strobe.isSet p.ev .tickIrq || s.irqPending

/-- The asserted strobes other than the tick. -/
def foregroundStrobes (p : Ports) : List Strobe :=
  (strobesOf p.ev).filter (fun k => decide (k ≠ .tickIrq))

/-- The strobes that can be served now: a waiting tick is held off while it is masked (60_exceptions
R188). -/
def serviceable (s : State) (p : Ports) : List Strobe :=
  if tickWaiting s p && !s.irqMask then .tickIrq :: foregroundStrobes p else foregroundStrobes p

/-- The strobe served first among `k` and `ks`: any of them (30_encoding R71; log 12). -/
def chooseStrobe (n : Nat) (k : Strobe) (ks : List Strobe) : Strobe :=
  (k :: ks).getD (Config.strobeChoice n % (k :: ks).length) k

/-- The next event, if there is one, and the state with it taken from the inputs. RESET overrides and
ends its snapshot (30_encoding R71). A snapshot with several strobes stays at the head until the last of
them is served. -/
def fetch (s : State) : Option Instr × State :=
  match s.inbox with
  | [] => (none, s)
  | p :: rest =>
    if p.rst then (some .reset, { s with inbox := rest })
    else
      match serviceable s p with
      | [] => (none, { s with inbox := rest, irqPending := tickWaiting s p })
      | [k] =>
        (some (eventOf k p),
          { s with inbox := rest, irqPending := tickWaiting s p && decide (k ≠ .tickIrq) })
      | k :: k' :: ks =>
        let c := chooseStrobe s.choices k (k' :: ks)
        let left := (foregroundStrobes p).filter (fun j => decide (j ≠ c))
        (some (eventOf c p),
          { s with
            inbox := { p with ev := strobeWord left } :: rest
            irqPending := tickWaiting s p && decide (c ≠ .tickIrq)
            choices := s.choices + 1 })

/-- The snapshot of the ports that presents an encoded instruction: a command word comes with its strobe
(30_encoding R71). -/
def portsOf (e : Encoded) : Ports :=
  match e with
  | .cmd40 word => { Ports.quiet with ev := 0b00001, cmd := word }
  | .ports p => p

/-- `s` with the encoded instruction as the next input to be served: nothing pending or masked before it
(log 11). -/
def presentInput (s : State) (e : Encoded) : State :=
  { s with inbox := portsOf e :: s.inbox, irqMask := false, irqPending := false }

end Sys2Proof.Machine
end

