-- ==== Sys2Proof/Machine/Step.lean ====
section
/-! DEFINITION. One step of the block: one event, a whole transaction (00_scope R8; 30_encoding R71). -/

namespace Sys2Proof.Machine

/-- A step refuses a parameter set that is no configuration of this hardware (00_scope R5; log 3), takes
the next event and performs its transaction; without an event the block is idle (60_exceptions R199). -/
def step (s : State) : Host.Outcome State Fault Refusal :=
  if s.params.Legal then
    match fetch s with
    | (some i, s') => exec i s'
    | (none, s') => .next s'
  else .refused .illegalConfiguration

/-- `s` with the instruction of an opcode-table word presented at the input ports, so that the very next
step runs it. -/
def State.withFetchWord (s : State) (nbits w : Nat) : State :=
  match tableWord nbits w with
  | some e => presentInput s e
  | none => s

end Sys2Proof.Machine
end

