-- ==== Sys2Proof/Machine/Outputs.lean ====
section
/-! DEFINITION. The words in which the output log leaves the block, formats `RESP49` and `TMR33`
(30_encoding R72, R73), and the level outputs (10_state R39). No meaning reads them. -/

namespace Sys2Proof.Machine

/-- `mode[7:0]`: Stopped `0x00`, Streaming `0x01` (10_state R24). -/
def Mode.code (m : Mode) : U8 :=
  match m with
  | .stopped => 0x00
  | .streaming => 0x01

/-- `mode_out = S.mode[0]` (10_state R39). -/
def State.modeOut (s : State) : BitVec 1 := s.mode.code.extractLsb' 0 1

/-- `range_out[7:0] = S.range` (10_state R39); no such output where the register is absent (R26; log 15). -/
def State.rangeOut (s : State) : Option U8 := if s.params.hasRange then some s.range else none

/-- `q_size_out[15:0] = S.q_cnt` (10_state R39). -/
def State.qSizeOut (s : State) : U16 := s.qCnt

/-- The word on the response port, where the transaction is a response (30_encoding R72): the kind bit,
then `z`, `y`, `x`, or the 32-bit value zero-extended. -/
def OutTxn.respWord (o : OutTxn) : Option RespWord :=
  match o with
  | .respValue v => some ((0#1 ++ 0#16) ++ v)
  | .respSample v => some (((1#1 ++ v.z) ++ v.y) ++ v.x)
  | .tmrInit _ => none
  | .tmrSetPeriod _ => none
  | .srcRead => none

/-- The word on the timer peripheral's port, where the transaction is the timer's (30_encoding R73): `op`
0 for `initialize`, 1 for `setPeriod`, then the period. -/
def OutTxn.tmrWord (o : OutTxn) : Option TmrWord :=
  match o with
  | .tmrInit p => some (0#1 ++ p)
  | .tmrSetPeriod p => some (1#1 ++ p)
  | .srcRead => none
  | .respValue _ => none
  | .respSample _ => none

/-- `src_req` is strobed (30_encoding R73). -/
def OutTxn.srcReq (o : OutTxn) : Bool := o == .srcRead

end Sys2Proof.Machine
end

