-- ==== Sys2Proof/Safety.lean ====
section
/-! DEFINITION. The terms in which statements about the block are made: runs of events (43_events R166),
what the queue holds (20_memory R56), the invariants of 10_state R30 and R33, and the launch states of
70_reset_and_hazards R228. -/

namespace Sys2Proof.Machine

/-! ## Outcomes and runs -/

/-- The next state, if there is one. -/
def nextOf (o : Host.Outcome State Fault Refusal) : Option State :=
  match o with
  | .next s => some s
  | .fault _ => none
  | .refused _ => none

/-- The fault, if there is one. -/
def faultOf (o : Host.Outcome State Fault Refusal) : Option Fault :=
  match o with
  | .next _ => none
  | .fault f => some f
  | .refused _ => none

/-- A run: the transactions of a sequence of events, ended by the first fault (43_events R166, R168). -/
def runEvents (es : List Instr) (s : State) : Host.Outcome State Fault Refusal :=
  match es with
  | [] => .next s
  | i :: is =>
    match exec i s with
    | .next s' => runEvents is s'
    | .fault f => .fault f
    | .refused r => .refused r

/-! ## What the queue holds -/

/-- The value of one axis of a sample. -/
def sampleAxis (v : Sample) (ch : Channel) : S16 :=
  match ch with
  | .x => v.x
  | .y => v.y
  | .z => v.z

/-- The queued triplets, oldest first: index `(q_rd + k) mod q_cap` for `k` below `q_cnt` (10_state R33
I4, I5). -/
def contents (s : State) : List Sample :=
  (List.range s.qCnt.toNat).map (fun k => readSample s ((s.qRd.toNat + k) % s.qCap.toNat))

/-- The sample a log entry hands to the transport, if it is one. -/
def OutTxn.sample? (o : OutTxn) : Option Sample :=
  match o with
  | .respSample v => some v
  | .tmrInit _ => none
  | .tmrSetPeriod _ => none
  | .srcRead => none
  | .respValue _ => none

/-- The samples handed to the transport, oldest first. -/
def sentSamples (log : List OutTxn) : List Sample := log.filterMap OutTxn.sample?

/-- A START_STREAM in `s` clears nothing: it finds the mode Streaming in a block built so (42_host_commands
R131). -/
def startKeepsQueue (s : State) : Bool :=
  decide (s.mode = .streaming) && !s.params.startClearsWhenStreaming

/-- An event that leaves the queue's contents to `push` and `pop`: no clear, no `init`, no `deAllocate`,
no RESET (20_memory R56: "since the last `init` or `clear`"). A command word counts by its opcode. No such
event changes the mode or the parameters (41_devicestate_primitives R114), so of a run it is asked in the
state the run starts from. -/
def keepsQueue (s : State) (i : Instr) : Bool :=
  match i with
  | .stopStream => false
  | .startStream => startKeepsQueue s
  | .setTimerPeriod _ => true
  | .getTimerPeriod => true
  | .setRange _ => true
  | .getRange => true
  | .getSample => true
  | .getMaxTimerPeriod => true
  | .getMinTimerPeriod => true
  | .getBadSampleCount => true
  | .cmd word => decide (2 ≤ (opcodeOf word).toNat) || (opcodeOf word == 0x01 && startKeepsQueue s)
  | .tick _ _ => true
  | .drain => true
  | .init _ => false
  | .dealloc => false
  | .reset => false

/-- The sample an event pushes and the queue does not drop, if there is one (43_events R160,
40_queue_primitives R91). -/
def acceptedPush (i : Instr) (s : State) : List Sample :=
  match i with
  | .tick v _ => if s.mode = .streaming ∧ s.qCnt < s.qCap then [v] else []
  | .stopStream => []
  | .startStream => []
  | .setTimerPeriod _ => []
  | .getTimerPeriod => []
  | .setRange _ => []
  | .getRange => []
  | .getSample => []
  | .getMaxTimerPeriod => []
  | .getMinTimerPeriod => []
  | .getBadSampleCount => []
  | .cmd _ => []
  | .drain => []
  | .init _ => []
  | .dealloc => []
  | .reset => []

/-- The pushes of a run that were not dropped, in the order performed (20_memory R56). -/
def acceptedPushes (es : List Instr) (s : State) : List Sample :=
  match es with
  | [] => []
  | i :: is =>
    acceptedPush i s ++
      match exec i s with
      | .next s' => acceptedPushes is s'
      | .fault _ => []
      | .refused _ => []

/-- The bad-sample counter after a sample with the verdict `bad` was read: 43_events R160 step 3 with the
rule of 41_devicestate_primitives R115. -/
def badCountAfter (p : Params) (bad : Bool) (n : U32) : U32 :=
  if bad = true ∧ p.hasBadSampleCount = true then
    if n.toNat < 2 ^ p.badCountWidth - 1 then n + 1
    else if p.badCountPolicy = .wrap then 0
    else n
  else n

/-! ## Invariants -/

/-- The pointer invariants I2 and I3 of 10_state R33, and the cleared pointers of an unallocated queue
(40_queue_primitives R95). -/
structure State.QueueInv (s : State) : Prop where
  cap_le : s.qCap.toNat ≤ s.params.maxCapacity
  cnt_le : s.qCnt ≤ s.qCap
  rd_lt : s.qRd < s.qCap ∨ (s.qCap = 0 ∧ s.qRd = 0)
  unallocated : s.qAlloc = false → s.qCap = 0 ∧ s.qRd = 0 ∧ s.qCnt = 0

/-- The DeviceState invariant of 10_state R30. -/
structure State.DeviceInv (s : State) : Prop where
  period_ge : s.params.minTimerPeriod ≤ s.timerPeriod
  period_le : s.timerPeriod ≤ s.params.maxTimerPeriod
  range_mem : inRangeSet s.range
  bad_count_le : s.badSampleCount.toNat ≤ badCountTop s.params

/-- Byte `a` of channel `ch` has been written since the memories were last made unspecified. -/
abbrev written (s : State) (ch : Channel) (a : Nat) : Prop := (memRead (s.channel ch) a).isSome = true

/-- The channel memories keep their canonical form and list only bytes that exist (10_state R31), and every
queued sample has been written (10_state R32). -/
structure State.MemoryInv (s : State) : Prop where
  wf : ∀ ch, memWf (s.channel ch)
  bounded : ∀ ch, ∀ c ∈ s.channel ch, c.1 < 2 * s.params.maxCapacity
  live : ∀ ch, ∀ k < s.qCnt.toNat,
    written s ch (2 * ((s.qRd.toNat + k) % s.qCap.toNat)) ∧
    written s ch (2 * ((s.qRd.toNat + k) % s.qCap.toNat) + 1)

/-- Everything that holds between any two transactions (10_state R30, R32, R33, R35, R36): the parameters
are a configuration, the invariants of the three parts hold, a stopped queue is empty (I6), no critical
section and no handler is open, and a tick is pending only beside the snapshot it came with. -/
structure State.Inv (s : State) : Prop where
  legal : s.params.Legal
  queue : s.QueueInv
  device : s.DeviceInv
  memory : s.MemoryInv
  stopped_empty : s.mode = .stopped → s.qCnt = 0
  unmasked : s.irqMask = false
  foreground : s.context = .foreground
  pending : s.irqPending = true → s.inbox ≠ []

/-! ## Launch states (70_reset_and_hazards R228) -/

/-- PoweredUp: the state right after RESET. -/
def poweredUp (p : Params) : State := State.resetWith p

/-- Ready(c): PoweredUp followed by `INIT(c)`; the epoch is the model's own (log 6). -/
def ready (p : Params) (c : U16) : State :=
  { State.resetWith p with qAlloc := true, qCap := c, epoch := 1 }

/-- An event that keeps the boot rules of 70_reset_and_hazards R214 and R228 after Ready: no DEALLOC, no
RESET and no over-large INIT. -/
def safeEvent (p : Params) (i : Instr) : Bool :=
  match i with
  | .init capacity => decide (capacity.toNat ≤ p.maxCapacity)
  | .dealloc => false
  | .reset => false
  | .stopStream => true
  | .startStream => true
  | .setTimerPeriod _ => true
  | .getTimerPeriod => true
  | .setRange _ => true
  | .getRange => true
  | .getSample => true
  | .getMaxTimerPeriod => true
  | .getMinTimerPeriod => true
  | .getBadSampleCount => true
  | .cmd _ => true
  | .tick _ _ => true
  | .drain => true

end Sys2Proof.Machine
end

