-- ==== Sys2Proof/Certificates/Slice0/Obligations.lean ====
section
/-! DEFINITION. The statements for the provers. A statement of an instruction's result is an equation
`exec i s = .next t` with `t` written out, so that it is the instruction's frame and its completion as
well: every field that `t` does not name is unchanged, every byte of the three channel memories among
them. -/

open Sys2Proof Sys2Proof.Machine

/-! ## Encoding -/

/-- Decoding and encoding agree: the decoder reads back every instruction that exists in the configuration,
with every operand at every value (30_encoding R70, R71, R74, R76, R80, R81). -/
def Obligations.DecodeReadsBackEveryInstruction : Prop :=
  ∀ (p : Params) (i : Instr), i.wellFormed p = true → decode p (encode i) = .ok i

/-- Conversely, whatever decodes exists in the configuration, and a decoded command word carries the opcode
and, for the two SET commands, the payload of the instruction's own encoding (30_encoding R70, R74, R78). -/
def Obligations.DecodedInstructionIsWellFormed : Prop :=
  ∀ (p : Params) (e : Encoded) (i : Instr), decode p e = .ok i →
    i.wellFormed p = true ∧
    (∀ w, e = .cmd40 w → ∃ w', encode i = .cmd40 w' ∧ opcodeOf w' = opcodeOf w ∧
      (payloadOf w' = payloadOf w ∨ (payloadOf w' = 0 ∧ opcodeOf w ≠ 0x02 ∧ opcodeOf w ≠ 0x04)))

/-- Rules R76, R78 and R84 of 30_encoding: the command of each opcode, no command for any other opcode or
for an absent feature's, and the event of each one-hot strobe word. -/
def Obligations.EveryWordDecodesByTheOpcodeMap : Prop :=
  (∀ (p : Params) (v : U32),
    decodeCommand p (cmdWord 0x00 v) = .ok .stopStream ∧
    decodeCommand p (cmdWord 0x01 v) = .ok .startStream ∧
    decodeCommand p (cmdWord 0x02 v) = .ok (.setTimerPeriod v) ∧
    decodeCommand p (cmdWord 0x03 v) = .ok .getTimerPeriod ∧
    (p.hasRange = true → decodeCommand p (cmdWord 0x04 v) = .ok (.setRange v)) ∧
    (p.hasRange = true → decodeCommand p (cmdWord 0x05 v) = .ok .getRange) ∧
    decodeCommand p (cmdWord 0x06 v) = .ok .getSample ∧
    decodeCommand p (cmdWord 0x07 v) = .ok .getMaxTimerPeriod ∧
    decodeCommand p (cmdWord 0x08 v) = .ok .getMinTimerPeriod ∧
    (p.hasBadSampleCount = true → decodeCommand p (cmdWord 0x09 v) = .ok .getBadSampleCount) ∧
    (p.hasRange = false → decodeCommand p (cmdWord 0x04 v) = .error (.unrecognised 0x04)) ∧
    (p.hasRange = false → decodeCommand p (cmdWord 0x05 v) = .error (.unrecognised 0x05)) ∧
    (p.hasBadSampleCount = false → decodeCommand p (cmdWord 0x09 v) = .error (.unrecognised 0x09)) ∧
    (∀ op : U8, 0x09 < op → decodeCommand p (cmdWord op v) = .error (.unrecognised op))) ∧
  (∀ w : CmdWord, w = cmdWord (opcodeOf w) (payloadOf w)) ∧
  (∀ q : Ports, q.rst = false →
    (q.ev = 0b00001 → decodePorts q = .ok (.cmd q.cmd)) ∧
    (q.ev = 0b00010 → decodePorts q = .ok (.tick ⟨q.srcX, q.srcY, q.srcZ⟩ q.srcBad)) ∧
    (q.ev = 0b00100 → decodePorts q = .ok .drain) ∧
    (q.ev = 0b01000 → decodePorts q = .ok (.init q.initCapacity)) ∧
    (q.ev = 0b10000 → decodePorts q = .ok .dealloc))

/-- 30_encoding R75: for every opcode other than `0x02` and `0x04` the payload is ignored, in decoding and
in effect. -/
def Obligations.PayloadIgnoredOutsideSetCommands : Prop :=
  ∀ (op : U8) (v w : U32), op ≠ 0x02 → op ≠ 0x04 →
    (∀ p : Params, decodeCommand p (cmdWord op v) = decodeCommand p (cmdWord op w)) ∧
    (∀ s : State, exec (.cmd (cmdWord op v)) s = exec (.cmd (cmdWord op w)) s)

/-- Sanity: words written out from 30_encoding R70, R71, R76 decode to what they stand for. The model's
choice in it: that the operand lines a table word does not give are 0, in the clauses of `.cmd 0`,
`.tick ⟨0, 0, 0⟩ false` and `.init 0` (log 14), and that `decodeTableWord` decodes in the configuration of
`State.reset`, in all of them (log 25). -/
def Obligations.WrittenOutWordsDecode : Prop :=
  decodeTableWord 40 0x0000000000 = some .stopStream ∧
  decodeTableWord 40 0x02000003E8 = some (.setTimerPeriod 1000) ∧
  decodeTableWord 40 0x0400000008 = some (.setRange 8) ∧
  decodeTableWord 40 0x06DEADBEEF = some .getSample ∧
  decodeTableWord 40 0x0A00000000 = none ∧
  decodeTableWord 5 0b00001 = some (.cmd 0) ∧
  decodeTableWord 5 0b00010 = some (.tick ⟨0, 0, 0⟩ false) ∧
  decodeTableWord 5 0b00100 = some .drain ∧
  decodeTableWord 5 0b01000 = some (.init 0) ∧
  decodeTableWord 5 0b10000 = some .dealloc ∧
  decodeTableWord 1 0b1 = some .reset

/-! ## The step -/

/-- A step runs the decoded instruction: when no tick is pending or masked and the next snapshot decodes to
`i`, the step is `exec i` with that snapshot taken from the inputs; a command word's step is `exec` of the
command it decodes to. -/
def Obligations.StepRunsTheDecodedInstruction : Prop :=
  ∀ (s : State) (p : Ports) (rest : List Ports) (i : Instr),
    s.params.Legal → s.inbox = p :: rest → s.irqMask = false → s.irqPending = false →
    decodePorts p = .ok i →
      step s = exec i { s with inbox := rest } ∧
      (∀ w j, i = .cmd w → decodeCommand s.params w = .ok j → step s = exec j { s with inbox := rest }) ∧
      (∀ w e, i = .cmd w → decodeCommand s.params w = .error e → step s = .next { s with inbox := rest })

/-- 30_encoding R71: `rst` is RESET and overrides every strobe, whatever is pending. -/
def Obligations.ResetInputOverridesEveryStrobe : Prop :=
  ∀ (s : State) (p : Ports) (rest : List Ports),
    s.params.Legal → s.inbox = p :: rest → p.rst = true → step s = exec .reset { s with inbox := rest }

/-- Of several strobes asserted at once a step serves exactly one, and the others are still to be served
after it, a tick as a pending interrupt (30_encoding R71, 43_events R166, 60_exceptions R188). Which one is
served is the free value of log 12. -/
def Obligations.SimultaneousStrobesServedOneByOne : Prop :=
  ∀ (s : State) (p : Ports) (rest : List Ports),
    s.params.Legal → s.inbox = p :: rest → p.rst = false → 2 ≤ (serviceable s p).length →
      ∃ k ∈ serviceable s p, ∃ (p' : Ports) (u : State),
        step s = exec (eventOf k p) u ∧
        u = { s with
              inbox := p' :: rest
              irqPending := tickWaiting s p && decide (k ≠ .tickIrq)
              choices := s.choices + 1 } ∧
        p' = { p with ev := p'.ev } ∧
        (∀ j, j ∈ serviceable u p' ↔ j ∈ serviceable s p ∧ j ≠ k)

/-- The one servable strobe is served, a held tick among them (10_state R36, 60_exceptions R188): a tick held
pending is served though its strobe has gone, and one strobed while it is held merges with it. A tick that is
masked, with nothing else to serve, is held. That a held tick draws from the source lines of the snapshot at
the head is the model's choice (log 9). -/
def Obligations.LoneServableStrobeIsServed : Prop :=
  ∀ (s : State) (p : Ports) (rest : List Ports),
    s.params.Legal → s.inbox = p :: rest → p.rst = false →
      (∀ k, serviceable s p = [k] →
        step s = exec (eventOf k p) { s with
          inbox := rest
          irqPending := tickWaiting s p && decide (k ≠ .tickIrq) }) ∧
      (s.irqPending = true → s.irqMask = false → (p.ev = 0b00000 ∨ p.ev = 0b00010) →
        step s = exec (.tick ⟨p.srcX, p.srcY, p.srcZ⟩ p.srcBad) { s with
          inbox := rest
          irqPending := false }) ∧
      (serviceable s p = [] → step s = .next { s with
        inbox := rest
        irqPending := tickWaiting s p })

/-- Without a snapshot, or with one that asserts nothing while nothing is pending, the block is idle
(60_exceptions R199; the inbox is the model's, log 11). -/
def Obligations.IdleWithoutAnEvent : Prop :=
  ∀ s : State, s.params.Legal →
    (s.inbox = [] → step s = .next s) ∧
    (∀ p rest, s.inbox = p :: rest → p.rst = false → p.ev = 0 → s.irqPending = false →
      step s = .next { s with inbox := rest })

/-- The model's choice (log 3; 93 U6, "refuse"): a step refuses a parameter set that breaks a constraint of
00_scope R5. -/
def Obligations.IllegalConfigurationRefused : Prop :=
  ∀ s : State, ¬ s.params.Legal → step s = .refused .illegalConfiguration

/-! ## Host commands: result, frame and completion -/

/-- 42_host_commands R130. -/
def Obligations.StopStreamStopsAndClears : Prop :=
  ∀ (s : State) (v : U32),
    decodeCommand s.params (cmdWord 0x00 v) = .ok .stopStream ∧
    (s.qAlloc = true →
      exec .stopStream s = .next { s with mode := .stopped, qRd := 0, qCnt := 0 }) ∧
    (s.qAlloc = false → exec .stopStream s = .fault (.queueNotAllocated .clear))

/-- 42_host_commands R131, with both readings of `START_CLEARS_WHEN_STREAMING`. -/
def Obligations.StartStreamClearsOnTransition : Prop :=
  ∀ (s : State) (v : U32),
    decodeCommand s.params (cmdWord 0x01 v) = .ok .startStream ∧
    (s.mode = .stopped → s.qAlloc = true →
      exec .startStream s = .next { s with mode := .streaming, qRd := 0, qCnt := 0 }) ∧
    (s.mode = .stopped → s.qAlloc = false →
      exec .startStream s = .fault (.queueNotAllocated .clear)) ∧
    (s.mode = .streaming → s.params.startClearsWhenStreaming = false →
      exec .startStream s = .next s) ∧
    (s.mode = .streaming → s.params.startClearsWhenStreaming = true → s.qAlloc = true →
      exec .startStream s = .next { s with qRd := 0, qCnt := 0 }) ∧
    (s.mode = .streaming → s.params.startClearsWhenStreaming = true → s.qAlloc = false →
      exec .startStream s = .fault (.queueNotAllocated .clear))

/-- 42_host_commands R132 with 41_devicestate_primitives R110: accepted exactly within the bounds, both
included; then stored and the timer reprogrammed, the same value too; otherwise nothing. -/
def Obligations.SetTimerPeriodValidates : Prop :=
  ∀ (v : U32) (s : State),
    decodeCommand s.params (cmdWord 0x02 v) = .ok (.setTimerPeriod v) ∧
    (s.params.minTimerPeriod ≤ v → v ≤ s.params.maxTimerPeriod →
      (setTimerPeriod v s).1 = true ∧
      exec (.setTimerPeriod v) s = .next { s with timerPeriod := v, log := s.log ++ [.tmrSetPeriod v] }) ∧
    (¬ (s.params.minTimerPeriod ≤ v ∧ v ≤ s.params.maxTimerPeriod) →
      (setTimerPeriod v s).1 = false ∧ exec (.setTimerPeriod v) s = .next s)

/-- 42_host_commands R133, R137, R138 (with 41_devicestate_primitives R111): one VALUE response, no other
change. -/
def Obligations.PeriodGettersRespond : Prop :=
  ∀ (s : State) (v : U32),
    decodeCommand s.params (cmdWord 0x03 v) = .ok .getTimerPeriod ∧
    exec .getTimerPeriod s = .next { s with log := s.log ++ [.respValue s.timerPeriod] } ∧
    decodeCommand s.params (cmdWord 0x07 v) = .ok .getMaxTimerPeriod ∧
    exec .getMaxTimerPeriod s = .next { s with log := s.log ++ [.respValue s.params.maxTimerPeriod] } ∧
    decodeCommand s.params (cmdWord 0x08 v) = .ok .getMinTimerPeriod ∧
    exec .getMinTimerPeriod s = .next { s with log := s.log ++ [.respValue s.params.minTimerPeriod] }

/-- 42_host_commands R134 with 41_devicestate_primitives R112: only 2, 4, 8, 16 as full 32-bit values are
accepted; nothing is emitted. Without `HAS_RANGE` the word is unrecognised and nothing changes. -/
def Obligations.SetRangeValidates : Prop :=
  ∀ (v : U32) (s : State),
    (s.params.hasRange = true → decodeCommand s.params (cmdWord 0x04 v) = .ok (.setRange v)) ∧
    (s.params.hasRange = true → (v = 2 ∨ v = 4 ∨ v = 8 ∨ v = 16) →
      (setRange v s).1 = true ∧
      exec (.setRange v) s = .next { s with range := BitVec.ofNat 8 v.toNat }) ∧
    (s.params.hasRange = true → ¬ (v = 2 ∨ v = 4 ∨ v = 8 ∨ v = 16) →
      (setRange v s).1 = false ∧ exec (.setRange v) s = .next s) ∧
    (s.params.hasRange = false → exec (.cmd (cmdWord 0x04 v)) s = .next s)

/-- 42_host_commands R135 and R139: the register zero-extended to 32 bits in one VALUE response, nothing
else changed, the counter not cleared; unrecognised where the feature is absent. -/
def Obligations.RangeAndCountGettersRespond : Prop :=
  ∀ (s : State) (v : U32),
    (s.params.hasRange = true → decodeCommand s.params (cmdWord 0x05 v) = .ok .getRange) ∧
    (s.params.hasRange = true →
      exec .getRange s = .next { s with log := s.log ++ [.respValue (s.range.zeroExtend 32)] }) ∧
    (s.params.hasRange = false → exec (.cmd (cmdWord 0x05 v)) s = .next s) ∧
    (s.params.hasBadSampleCount = true →
      decodeCommand s.params (cmdWord 0x09 v) = .ok .getBadSampleCount) ∧
    (s.params.hasBadSampleCount = true →
      exec .getBadSampleCount s = .next { s with log := s.log ++ [.respValue s.badSampleCount] }) ∧
    (s.params.hasBadSampleCount = false → exec (.cmd (cmdWord 0x09 v)) s = .next s)

/-- 42_host_commands R136, in either mode: the oldest sample is handed over and dequeued; an empty queue
gives no response and no change; an unallocated one faults. -/
def Obligations.GetSamplePopsTheOldest : Prop :=
  ∀ (s : State) (v : U32),
    decodeCommand s.params (cmdWord 0x06 v) = .ok .getSample ∧
    (s.qAlloc = true → s.qCnt ≠ 0 → s.qCap ≠ 0 → s.qRd.toNat < s.params.maxCapacity →
      exec .getSample s = .next { s with
        qRd := BitVec.ofNat 16 ((s.qRd.toNat + 1) % s.qCap.toNat)
        qCnt := s.qCnt - 1
        irqMask := false
        log := s.log ++ [.respSample (readSample s s.qRd.toNat)] }) ∧
    (s.qAlloc = true → s.qCnt = 0 → exec .getSample s = .next s) ∧
    (s.qAlloc = false → exec .getSample s = .fault (.queueNotAllocated .size))

/-- 42_host_commands R140 with 30_encoding R77 and R78: a word that names no command of the configuration is
ignored, whatever its payload. -/
def Obligations.UnrecognisedCommandIgnored : Prop :=
  ∀ (op : U8) (v : U32) (s : State),
    (0x09 < op ∨ (op = 0x04 ∧ s.params.hasRange = false) ∨ (op = 0x05 ∧ s.params.hasRange = false) ∨
      (op = 0x09 ∧ s.params.hasBadSampleCount = false)) →
    exec (.cmd (cmdWord op v)) s = .next s

/-- 42_host_commands R141: the event CMD does what its decoded command does, and nothing for a word that
names none. -/
def Obligations.CmdRunsItsDecodedCommand : Prop :=
  ∀ (w : CmdWord) (s : State),
    (∀ i, decodeCommand s.params w = .ok i → exec (.cmd w) s = exec i s) ∧
    (∀ e, decodeCommand s.params w = .error e → exec (.cmd w) s = .next s)

/-- On an allocated queue whose pointers are in bounds, the event CMD completes for every word. -/
def Obligations.CmdCompletesOnceAllocated : Prop :=
  ∀ (w : CmdWord) (s : State), s.qAlloc = true → s.QueueInv → ∃ t, exec (.cmd w) s = .next t

/-! ## Events: result, frame and completion -/

/-- 43_events R160 step 1 (60_exceptions R189): a tick in Stopped reads no source, counts nothing and pushes
nothing; the interrupt is taken and returned from. -/
def Obligations.TickInStoppedDoesNothing : Prop :=
  ∀ (v : Sample) (bad : Bool) (s : State), s.mode = .stopped →
    exec (.tick v bad) s = .next { s with irqPending := false, context := .foreground }

/-- 43_events R160 with 40_queue_primitives R91 and 41_devicestate_primitives R115: a tick in Streaming with
room reads the source once, counts a bad sample and stores the sample, bad or not, at the write index, low
byte first; every other byte of every channel reads as before, and nothing else changes. -/
def Obligations.TickStoresTheSample : Prop :=
  ∀ (v : Sample) (bad : Bool) (s : State),
    s.mode = .streaming → s.qAlloc = true → s.qCnt < s.qCap → writeIndex s < s.params.maxCapacity →
    ∃ t, exec (.tick v bad) s = .next t ∧
      readSample t (writeIndex s) = v ∧
      (∀ ch, readByte t ch (2 * writeIndex s) = (sampleAxis v ch).extractLsb' 0 8 ∧
        readByte t ch (2 * writeIndex s + 1) = (sampleAxis v ch).extractLsb' 8 8) ∧
      (∀ ch a, a ≠ 2 * writeIndex s → a ≠ 2 * writeIndex s + 1 → readByte t ch a = readByte s ch a) ∧
      t = { s with
            badSampleCount := badCountAfter s.params bad s.badSampleCount
            qCnt := s.qCnt + 1
            memX := t.memX
            memY := t.memY
            memZ := t.memZ
            irqMask := false
            irqPending := false
            context := .foreground
            log := s.log ++ [.srcRead] }

/-- 43_events R160 case 3, 60_exceptions R182: into a full queue (one of capacity 0 among them) the sample
is read, counted if bad, and dropped without trace. -/
def Obligations.TickIntoFullQueueDropsTheSample : Prop :=
  ∀ (v : Sample) (bad : Bool) (s : State),
    s.mode = .streaming → s.qAlloc = true → s.qCap ≤ s.qCnt →
    exec (.tick v bad) s = .next { s with
      badSampleCount := badCountAfter s.params bad s.badSampleCount
      irqMask := false
      irqPending := false
      context := .foreground
      log := s.log ++ [.srcRead] }

/-- 43_events R160 faults, R168: a tick in Streaming with the queue unallocated has no next state. -/
def Obligations.TickOnUnallocatedQueueFaults : Prop :=
  ∀ (v : Sample) (bad : Bool) (s : State),
    s.mode = .streaming → s.qAlloc = false → exec (.tick v bad) s = .fault (.queueNotAllocated .push)

/-- 43_events R162: DRAIN tests `mode` first; in Streaming it sends at most one sample, the oldest. -/
def Obligations.DrainSendsTheOldestWhileStreaming : Prop :=
  ∀ s : State,
    (s.mode = .stopped → exec .drain s = .next s) ∧
    (s.mode = .streaming → s.qAlloc = true → s.qCnt ≠ 0 → s.qCap ≠ 0 → s.qRd.toNat < s.params.maxCapacity →
      exec .drain s = .next { s with
        qRd := BitVec.ofNat 16 ((s.qRd.toNat + 1) % s.qCap.toNat)
        qCnt := s.qCnt - 1
        irqMask := false
        log := s.log ++ [.respSample (readSample s s.qRd.toNat)] }) ∧
    (s.mode = .streaming → s.qAlloc = true → s.qCnt = 0 → exec .drain s = .next s) ∧
    (s.mode = .streaming → s.qAlloc = false → exec .drain s = .fault (.queueNotAllocated .size))

/-- 43_events R164 with 40_queue_primitives R90: every legal capacity, 0 among them, allocates an empty
queue with every byte of the channel memories unspecified again (the epoch is the model's own, log 6); a
larger one faults. -/
def Obligations.InitAllocatesAnEmptyQueue : Prop :=
  ∀ (c : U16) (s : State),
    (c.toNat ≤ s.params.maxCapacity →
      exec (.init c) s = .next { s with
        qAlloc := true, qCap := c, qRd := 0, qCnt := 0
        memX := [], memY := [], memZ := []
        epoch := s.epoch + 1 }) ∧
    (s.params.maxCapacity < c.toNat → exec (.init c) s = .fault (.initCapacityTooLarge c))

/-- 43_events R165 with 40_queue_primitives R95, and the hazard of 70_reset_and_hazards R218: the queue is
gone, DeviceState untouched, and the next TICK or DRAIN in Streaming faults. -/
def Obligations.DeallocReleasesTheQueue : Prop :=
  ∀ s : State, ∃ t, exec .dealloc s = .next t ∧
    t = { s with
          qAlloc := false, qCap := 0, qRd := 0, qCnt := 0
          memX := [], memY := [], memZ := []
          epoch := s.epoch + 1 } ∧
    (s.mode = .streaming → ∀ v bad, exec (.tick v bad) t = .fault (.queueNotAllocated .push)) ∧
    (s.mode = .streaming → exec .drain t = .fault (.queueNotAllocated .size))

/-- 70_reset_and_hazards R210 to R212 with the table of 10_state R41, in every configuration; the four
fields at the end are the model's own (logs 1, 6, 11, 12, 20). -/
def Obligations.ResetGivesTheResetTable : Prop :=
  ∀ s : State, exec .reset s = .next
    { mode := .stopped
      timerPeriod := s.params.defaultTimerPeriod
      range := s.params.defaultRange
      badSampleCount := 0
      qAlloc := false
      qCap := 0
      qRd := 0
      qCnt := 0
      memX := []
      memY := []
      memZ := []
      irqMask := false
      irqPending := false
      context := .foreground
      log := [.tmrInit s.params.defaultTimerPeriod]
      params := s.params
      inbox := s.inbox
      epoch := s.epoch + 1
      choices := s.choices }

/-- 70_reset_and_hazards R228: RESET then `INIT(c)` from any state gives Ready(c), but for the model's own
inbox and counters. -/
def Obligations.ResetThenInitIsReady : Prop :=
  ∀ (s : State) (c : U16), c.toNat ≤ s.params.maxCapacity →
    runEvents [.reset, .init c] s = .next { ready s.params c with
      inbox := s.inbox, epoch := s.epoch + 2, choices := s.choices }

/-! ## The queue as a list of samples -/

/-- 40_queue_primitives R91, R96 as a refinement: a tick in Streaming appends its sample to what the queue
holds, or leaves it as it is when the queue is full. -/
def Obligations.TickAppendsToTheContents : Prop :=
  ∀ (v : Sample) (bad : Bool) (s t : State),
    s.QueueInv → s.mode = .streaming → exec (.tick v bad) s = .next t →
    contents t = contents s ++ (if s.qCnt < s.qCap then [v] else [])

/-- 40_queue_primitives R92, R96 as a refinement: GET_SAMPLE, and DRAIN in Streaming, take the first of what
a non-empty queue holds and hand over exactly that triplet. -/
def Obligations.PopTakesTheFirstOfTheContents : Prop :=
  ∀ (i : Instr) (s : State),
    s.QueueInv → s.qAlloc = true → s.qCnt ≠ 0 →
    (i = .getSample ∨ (i = .drain ∧ s.mode = .streaming)) →
    ∃ v t, exec i s = .next t ∧ contents s = v :: contents t ∧ t.log = s.log ++ [.respSample v]

/-- 20_memory R56, the FIFO law: over any run without a clear, `init`, `deAllocate` or RESET (a START_STREAM
that finds the mode Streaming and clears nothing may stand in it, 42_host_commands R131), what was handed over
and what is still queued is, in order, what was handed over and queued before and then every push that was not
dropped. -/
def Obligations.FifoOrderOverEveryRun : Prop :=
  ∀ (es : List Instr) (s t : State),
    s.QueueInv → (∀ i ∈ es, keepsQueue s i = true) → runEvents es s = .next t →
    sentSamples t.log ++ contents t = sentSamples s.log ++ contents s ++ acceptedPushes es s

/-- 40_queue_primitives R96 (source S2, S7): pushing any list of samples, each with either verdict, into an
empty queue and draining as often hands over exactly the first `q_cap` of them, in order, and leaves the queue
empty; before the drains the queue holds exactly those. -/
def Obligations.PushesThenDrainsReturnTheFirstOnes : Prop :=
  ∀ (answers : List (Sample × Bool)) (s : State),
    s.QueueInv → s.qAlloc = true → s.mode = .streaming → s.qCnt = 0 →
    ∃ t u, runEvents (answers.map (fun a => .tick a.1 a.2)) s = .next t ∧
      contents t = (answers.map Prod.fst).take s.qCap.toNat ∧
      runEvents (List.replicate answers.length .drain) t = .next u ∧
      sentSamples u.log = sentSamples s.log ++ (answers.map Prod.fst).take s.qCap.toNat ∧
      contents u = []

/-- 20_memory R62, 41_devicestate_primitives R117: with the pointers in bounds no sum needs more than 17
bits, the write index of a queue with room is below the capacity, and the reduction is at most one
subtraction of it; the same for the next read index. -/
def Obligations.IndexArithmeticIsOneSubtraction : Prop :=
  ∀ s : State, s.QueueInv →
    s.qRd.toNat + s.qCnt.toNat < 2 ^ 17 ∧
    (s.qCnt < s.qCap →
      writeIndex s < s.qCap.toNat ∧
      writeIndex s = (if s.qRd.toNat + s.qCnt.toNat < s.qCap.toNat then s.qRd.toNat + s.qCnt.toNat
        else s.qRd.toNat + s.qCnt.toNat - s.qCap.toNat)) ∧
    (s.qCnt ≠ 0 → (nextReadIndex s).toNat =
      (if s.qRd.toNat + 1 < s.qCap.toNat then s.qRd.toNat + 1 else 0))

/-- 20_memory R58 (a), 70_reset_and_hazards R220: a tick that comes between the size test and the pop of
GET_SAMPLE, or of DRAIN in Streaming, does not change which sample is handed over. -/
def Obligations.TickBeforePopKeepsTheOldest : Prop :=
  ∀ (w : Sample) (bad : Bool) (i : Instr) (s t : State),
    s.QueueInv → s.qCnt ≠ 0 → exec (.tick w bad) s = .next t → s.qAlloc = true →
    (i = .getSample ∨ (i = .drain ∧ s.mode = .streaming)) →
    ∃ v a b, exec i s = .next a ∧ exec i t = .next b ∧
      a.log = s.log ++ [.respSample v] ∧ b.log = t.log ++ [.respSample v]

/-! ## Invariants -/

/-- Every step keeps the invariants that hold between transactions (10_state R30, R32, R33, R35, R36). -/
def Obligations.EveryStepKeepsTheInvariants : Prop :=
  ∀ s t : State, s.Inv → step s = .next t → t.Inv

/-- The state after reset meets them, in every legal configuration. -/
def Obligations.ResetMeetsTheInvariants : Prop :=
  (∀ p : Params, p.Legal → (State.resetWith p).Inv) ∧ State.reset.Inv

/-- 70_reset_and_hazards R228, one event at a time: in every state that meets the invariants with the queue
allocated, an event other than DEALLOC, over-large INIT or RESET has a next state, and that state meets the
invariants with the queue allocated. -/
def Obligations.SafeEventCompletesAndKeepsTheInvariants : Prop :=
  ∀ (i : Instr) (s : State), s.Inv → s.qAlloc = true → safeEvent s.params i = true →
    ∃ t, exec i s = .next t ∧ t.Inv ∧ t.qAlloc = true

/-- 70_reset_and_hazards R228: from Ready(c), no sequence of events without DEALLOC, over-large INIT or RESET
can fault, and the queue stays allocated. -/
def Obligations.NoEventFaultsFromReady : Prop :=
  ∀ (p : Params) (c : U16) (es : List Instr),
    p.Legal → c.toNat ≤ p.maxCapacity → (∀ i ∈ es, safeEvent p i = true) →
    ∃ t, runEvents es (ready p c) = .next t ∧ t.Inv ∧ t.qAlloc = true

/-- 60_exceptions R185: `pop` raises the fault exactly on an empty queue (an unallocated one is refused
first, R191), with no value and no next state; no event can raise it. -/
def Obligations.UnderflowIsUnreachable : Prop :=
  (∀ s : State, queuePop s = .error .queueUnderflow ↔ s.qAlloc = true ∧ s.qCnt = 0) ∧
  (∀ (i : Instr) (s : State), exec i s ≠ .fault .queueUnderflow)

/-- 60_exceptions R184: the four primitives refuse an unallocated queue, each under its own name; and
exactly which events raise `QueueNotAllocated`, with which primitive (the event CMD raises what its command
raises, `CmdRunsItsDecodedCommand`). -/
def Obligations.NotAllocatedRaisedOnlyBy : Prop :=
  (∀ (v : Sample) (s : State), s.qAlloc = false →
    queuePush v s = .error (.queueNotAllocated .push) ∧ queuePop s = .error (.queueNotAllocated .pop) ∧
    queueSize s = .error (.queueNotAllocated .size) ∧ queueClear s = .error (.queueNotAllocated .clear)) ∧
  (∀ (i : Instr) (s : State) (op : QueueOp), (∀ w, i ≠ .cmd w) →
    (exec i s = .fault (.queueNotAllocated op) ↔
      s.qAlloc = false ∧
      ((op = .push ∧ s.mode = .streaming ∧ ∃ v bad, i = .tick v bad) ∨
       (op = .size ∧ (i = .getSample ∨ (i = .drain ∧ s.mode = .streaming))) ∨
       (op = .clear ∧ (i = .stopStream ∨
         (i = .startStream ∧ (s.mode = .stopped ∨ s.params.startClearsWhenStreaming = true)))))))

/-- 60_exceptions R186: `InitCapacityTooLarge(c)` is raised exactly by `INIT(c)` with more than
`MAX_CAPACITY` samples. -/
def Obligations.CapacityFaultRaisedOnlyByInit : Prop :=
  ∀ (i : Instr) (s : State) (c : U16),
    exec i s = .fault (.initCapacityTooLarge c) ↔ i = .init c ∧ s.params.maxCapacity < c.toNat

/-! ## Whole-machine rules -/

/-- 41_devicestate_primitives R114: `setMode` writes the mode alone, and the complete transition table of the
mode machine (a command word counts by its opcode). -/
def Obligations.ModeMachineTransitions : Prop :=
  (∀ (m : Mode) (s : State), setMode m s = { s with mode := m }) ∧
  ∀ (i : Instr) (s t : State), exec i s = .next t →
    ((i = .startStream ∨ ∃ w, i = .cmd w ∧ opcodeOf w = 0x01) → t.mode = .streaming) ∧
    ((i = .stopStream ∨ (∃ w, i = .cmd w ∧ opcodeOf w = 0x00) ∨ i = .reset) → t.mode = .stopped) ∧
    ((i ≠ .startStream ∧ i ≠ .stopStream ∧ i ≠ .reset ∧
      ∀ w, i = .cmd w → opcodeOf w ≠ 0x00 ∧ opcodeOf w ≠ 0x01) → t.mode = s.mode)

/-- 10_state R25, R26, R27: which events can change `timerPeriod`, `range` and `badSampleCount`. -/
def Obligations.DeviceRegistersChangedOnlyBy : Prop :=
  ∀ (i : Instr) (s t : State), exec i s = .next t →
    (t.timerPeriod ≠ s.timerPeriod →
      i = .reset ∨ (∃ v, i = .setTimerPeriod v) ∨ ∃ w, i = .cmd w ∧ opcodeOf w = 0x02) ∧
    (t.range ≠ s.range →
      i = .reset ∨ (∃ v, i = .setRange v) ∨ ∃ w, i = .cmd w ∧ opcodeOf w = 0x04) ∧
    (t.badSampleCount ≠ s.badSampleCount → i = .reset ∨ ∃ v, i = .tick v true)

/-- 10_state R31, R32: every event but TICK, INIT, DEALLOC and RESET leaves every byte of the channel
memories, the unspecified ones among them, as it reads (what those four do to the memories is said by
`TickStoresTheSample`, `InitAllocatesAnEmptyQueue`, `DeallocReleasesTheQueue` and
`ResetGivesTheResetTable`). -/
def Obligations.ChannelMemoriesChangedOnlyBy : Prop :=
  ∀ (i : Instr) (s t : State), exec i s = .next t →
    (∀ v bad, i ≠ .tick v bad) → (∀ c, i ≠ .init c) → i ≠ .dealloc → i ≠ .reset →
    ∀ ch a, readByte t ch a = readByte s ch a

/-- 10_state R38 and 60_exceptions R189 (90 C5): every event but RESET only appends to the log, at most one
entry, and SampleSource is read exactly by a tick in Streaming. -/
def Obligations.LogGrowsByAtMostOneEntry : Prop :=
  ∀ (i : Instr) (s t : State), exec i s = .next t → i ≠ .reset →
    ∃ l, t.log = s.log ++ l ∧ l.length ≤ 1 ∧
      (.srcRead ∈ l ↔ s.mode = .streaming ∧ ∃ v bad, i = .tick v bad)

/-- 10_state R28, R40: no event writes the implementation parameters, the constants CR4 and CR5 among them
(that they stand in State is the model's choice, log 1); nor the model's inbox or choice counter. -/
def Obligations.ParametersAreNeverWritten : Prop :=
  ∀ (i : Instr) (s t : State), exec i s = .next t →
    t.params = s.params ∧ t.inbox = s.inbox ∧ t.choices = s.choices

/-- 10_state R30: under `saturate`, `badSampleCount` never decreases except at RESET. -/
def Obligations.SaturatingCountNeverDecreases : Prop :=
  ∀ (i : Instr) (s t : State),
    s.params.Legal → s.params.badCountPolicy = .saturate → i ≠ .reset → exec i s = .next t →
    s.badSampleCount ≤ t.badSampleCount

/-- 41_devicestate_primitives R116: samples are moved, never interpreted. Two ticks that differ in the
sample alone end alike, and their next states differ in the channel memories at most. -/
def Obligations.SampleValuesOnlyReachTheMemories : Prop :=
  ∀ (v w : Sample) (bad : Bool) (s t : State), exec (.tick v bad) s = .next t →
    ∃ u, exec (.tick w bad) s = .next u ∧
      u = { t with memX := u.memX, memY := u.memY, memZ := u.memZ }

/-- Source S5 (42_host_commands R130, R136): STOP_STREAM and then GET_SAMPLE returns no data, whatever was
queued. -/
def Obligations.NoDataAfterStop : Prop :=
  ∀ s : State, s.qAlloc = true →
    runEvents [.stopStream, .getSample] s = .next { s with mode := .stopped, qRd := 0, qCnt := 0 }

/-! ## Outputs -/

/-- 30_encoding R72 and R73: where each part of a response and of a timer transaction stands in its word. -/
def Obligations.OutputWordLayout : Prop :=
  (∀ v : Sample, ∃ w, (OutTxn.respSample v).respWord = some w ∧ w.extractLsb' 48 1 = 1 ∧
    w.extractLsb' 32 16 = v.z ∧ w.extractLsb' 16 16 = v.y ∧ w.extractLsb' 0 16 = v.x) ∧
  (∀ v : U32, ∃ w, (OutTxn.respValue v).respWord = some w ∧ w.extractLsb' 48 1 = 0 ∧
    w.extractLsb' 32 16 = 0 ∧ w.extractLsb' 0 32 = v) ∧
  (∀ v : U32, ∃ w, (OutTxn.tmrInit v).tmrWord = some w ∧ w.extractLsb' 32 1 = 0 ∧
    w.extractLsb' 0 32 = v) ∧
  (∀ v : U32, ∃ w, (OutTxn.tmrSetPeriod v).tmrWord = some w ∧ w.extractLsb' 32 1 = 1 ∧
    w.extractLsb' 0 32 = v)

/-- 10_state R39; where the range register is absent there is no such output (R26, the model's choice,
log 15). -/
def Obligations.LevelOutputsFollowTheState : Prop :=
  ∀ s : State,
    (s.modeOut = 1 ↔ s.mode = .streaming) ∧ s.qSizeOut = s.qCnt ∧
    (s.params.hasRange = true → s.rangeOut = some s.range) ∧
    (s.params.hasRange = false → s.rangeOut = none)
end

