-- ==== Sys2Proof/Laws/Decode.lean ====
section
/-! SUPPORT. The fields of an assembled command word, the decoder on it, and the strobes of a strobe
word. -/

namespace Sys2Proof

@[simp] theorem opcodeOf_cmdWord (op : U8) (v : U32) : opcodeOf (cmdWord op v) = op := by
  apply BitVec.eq_of_getLsbD_eq
  intro i hi
  show (BitVec.extractLsb' 32 8 (op ++ v : BitVec (8 + 32))).getLsbD i = _
  have h1 : ¬ 32 + i < 32 := by omega
  have h2 : 32 + i - 32 = i := by omega
  rw [BitVec.getLsbD_extractLsb', BitVec.getLsbD_append, if_neg h1, h2]
  simp [hi]

@[simp] theorem payloadOf_cmdWord (op : U8) (v : U32) : payloadOf (cmdWord op v) = v := by
  apply BitVec.eq_of_getLsbD_eq
  intro i hi
  show (BitVec.extractLsb' 0 32 (op ++ v : BitVec (8 + 32))).getLsbD i = _
  have h1 : 0 + i < 32 := by omega
  rw [BitVec.getLsbD_extractLsb', BitVec.getLsbD_append, if_pos h1]
  simp [hi]

/-- The decoder on an assembled word (30_encoding R76 to R78). -/
theorem decodeCommand_cmdWord (p : Params) (op : U8) (v : U32) :
    decodeCommand p (cmdWord op v) =
      match op.toNat with
      | 0x00 => .ok .stopStream
      | 0x01 => .ok .startStream
      | 0x02 => .ok (.setTimerPeriod v)
      | 0x03 => .ok .getTimerPeriod
      | 0x04 => if p.hasRange then .ok (.setRange v) else .error (.unrecognised op)
      | 0x05 => if p.hasRange then .ok .getRange else .error (.unrecognised op)
      | 0x06 => .ok .getSample
      | 0x07 => .ok .getMaxTimerPeriod
      | 0x08 => .ok .getMinTimerPeriod
      | 0x09 => if p.hasBadSampleCount then .ok .getBadSampleCount else .error (.unrecognised op)
      | _ => .error (.unrecognised op) := by
  simp only [decodeCommand, opcodeOf_cmdWord, payloadOf_cmdWord] <;> rfl

/-- No strobe is listed twice. -/
theorem strobesOf_nodup (ev : StrobeWord) : (strobesOf ev).Nodup := by revert ev; decide

/-- The strobes of a one-hot word (30_encoding R71). -/
@[simp] theorem strobesOf_oneHot (k : Strobe) : strobesOf k.oneHot = [k] := by cases k <;> decide

end Sys2Proof
end

