-- ==== Sys2Proof/Laws/State.lean ====
section
/-! SUPPORT. One lemma per field per update of the state: what each named update leaves in each field. -/

namespace Sys2Proof.Machine

/-! ## `setMode` -/

@[simp] theorem setMode_mode (m : Mode) (s : State) : (setMode m s).mode = m := rfl
@[simp] theorem setMode_timerPeriod (m : Mode) (s : State) : (setMode m s).timerPeriod = s.timerPeriod := rfl
@[simp] theorem setMode_range (m : Mode) (s : State) : (setMode m s).range = s.range := rfl
@[simp] theorem setMode_badSampleCount (m : Mode) (s : State) : (setMode m s).badSampleCount = s.badSampleCount := rfl
@[simp] theorem setMode_qAlloc (m : Mode) (s : State) : (setMode m s).qAlloc = s.qAlloc := rfl
@[simp] theorem setMode_qCap (m : Mode) (s : State) : (setMode m s).qCap = s.qCap := rfl
@[simp] theorem setMode_qRd (m : Mode) (s : State) : (setMode m s).qRd = s.qRd := rfl
@[simp] theorem setMode_qCnt (m : Mode) (s : State) : (setMode m s).qCnt = s.qCnt := rfl
@[simp] theorem setMode_memX (m : Mode) (s : State) : (setMode m s).memX = s.memX := rfl
@[simp] theorem setMode_memY (m : Mode) (s : State) : (setMode m s).memY = s.memY := rfl
@[simp] theorem setMode_memZ (m : Mode) (s : State) : (setMode m s).memZ = s.memZ := rfl
@[simp] theorem setMode_irqMask (m : Mode) (s : State) : (setMode m s).irqMask = s.irqMask := rfl
@[simp] theorem setMode_irqPending (m : Mode) (s : State) : (setMode m s).irqPending = s.irqPending := rfl
@[simp] theorem setMode_context (m : Mode) (s : State) : (setMode m s).context = s.context := rfl
@[simp] theorem setMode_log (m : Mode) (s : State) : (setMode m s).log = s.log := rfl
@[simp] theorem setMode_params (m : Mode) (s : State) : (setMode m s).params = s.params := rfl
@[simp] theorem setMode_inbox (m : Mode) (s : State) : (setMode m s).inbox = s.inbox := rfl
@[simp] theorem setMode_epoch (m : Mode) (s : State) : (setMode m s).epoch = s.epoch := rfl
@[simp] theorem setMode_choices (m : Mode) (s : State) : (setMode m s).choices = s.choices := rfl

/-! ## `emit` -/

@[simp] theorem emit_mode (o : OutTxn) (s : State) : (emit o s).mode = s.mode := rfl
@[simp] theorem emit_timerPeriod (o : OutTxn) (s : State) : (emit o s).timerPeriod = s.timerPeriod := rfl
@[simp] theorem emit_range (o : OutTxn) (s : State) : (emit o s).range = s.range := rfl
@[simp] theorem emit_badSampleCount (o : OutTxn) (s : State) : (emit o s).badSampleCount = s.badSampleCount := rfl
@[simp] theorem emit_qAlloc (o : OutTxn) (s : State) : (emit o s).qAlloc = s.qAlloc := rfl
@[simp] theorem emit_qCap (o : OutTxn) (s : State) : (emit o s).qCap = s.qCap := rfl
@[simp] theorem emit_qRd (o : OutTxn) (s : State) : (emit o s).qRd = s.qRd := rfl
@[simp] theorem emit_qCnt (o : OutTxn) (s : State) : (emit o s).qCnt = s.qCnt := rfl
@[simp] theorem emit_memX (o : OutTxn) (s : State) : (emit o s).memX = s.memX := rfl
@[simp] theorem emit_memY (o : OutTxn) (s : State) : (emit o s).memY = s.memY := rfl
@[simp] theorem emit_memZ (o : OutTxn) (s : State) : (emit o s).memZ = s.memZ := rfl
@[simp] theorem emit_irqMask (o : OutTxn) (s : State) : (emit o s).irqMask = s.irqMask := rfl
@[simp] theorem emit_irqPending (o : OutTxn) (s : State) : (emit o s).irqPending = s.irqPending := rfl
@[simp] theorem emit_context (o : OutTxn) (s : State) : (emit o s).context = s.context := rfl
@[simp] theorem emit_log (o : OutTxn) (s : State) : (emit o s).log = s.log ++ [o] := rfl
@[simp] theorem emit_params (o : OutTxn) (s : State) : (emit o s).params = s.params := rfl
@[simp] theorem emit_inbox (o : OutTxn) (s : State) : (emit o s).inbox = s.inbox := rfl
@[simp] theorem emit_epoch (o : OutTxn) (s : State) : (emit o s).epoch = s.epoch := rfl
@[simp] theorem emit_choices (o : OutTxn) (s : State) : (emit o s).choices = s.choices := rfl

/-! ## `maskIrq` -/

@[simp] theorem maskIrq_mode (s : State) : (maskIrq s).mode = s.mode := rfl
@[simp] theorem maskIrq_timerPeriod (s : State) : (maskIrq s).timerPeriod = s.timerPeriod := rfl
@[simp] theorem maskIrq_range (s : State) : (maskIrq s).range = s.range := rfl
@[simp] theorem maskIrq_badSampleCount (s : State) : (maskIrq s).badSampleCount = s.badSampleCount := rfl
@[simp] theorem maskIrq_qAlloc (s : State) : (maskIrq s).qAlloc = s.qAlloc := rfl
@[simp] theorem maskIrq_qCap (s : State) : (maskIrq s).qCap = s.qCap := rfl
@[simp] theorem maskIrq_qRd (s : State) : (maskIrq s).qRd = s.qRd := rfl
@[simp] theorem maskIrq_qCnt (s : State) : (maskIrq s).qCnt = s.qCnt := rfl
@[simp] theorem maskIrq_memX (s : State) : (maskIrq s).memX = s.memX := rfl
@[simp] theorem maskIrq_memY (s : State) : (maskIrq s).memY = s.memY := rfl
@[simp] theorem maskIrq_memZ (s : State) : (maskIrq s).memZ = s.memZ := rfl
@[simp] theorem maskIrq_irqMask (s : State) : (maskIrq s).irqMask = true := rfl
@[simp] theorem maskIrq_irqPending (s : State) : (maskIrq s).irqPending = s.irqPending := rfl
@[simp] theorem maskIrq_context (s : State) : (maskIrq s).context = s.context := rfl
@[simp] theorem maskIrq_log (s : State) : (maskIrq s).log = s.log := rfl
@[simp] theorem maskIrq_params (s : State) : (maskIrq s).params = s.params := rfl
@[simp] theorem maskIrq_inbox (s : State) : (maskIrq s).inbox = s.inbox := rfl
@[simp] theorem maskIrq_epoch (s : State) : (maskIrq s).epoch = s.epoch := rfl
@[simp] theorem maskIrq_choices (s : State) : (maskIrq s).choices = s.choices := rfl

/-! ## `unmaskIrq` -/

@[simp] theorem unmaskIrq_mode (s : State) : (unmaskIrq s).mode = s.mode := rfl
@[simp] theorem unmaskIrq_timerPeriod (s : State) : (unmaskIrq s).timerPeriod = s.timerPeriod := rfl
@[simp] theorem unmaskIrq_range (s : State) : (unmaskIrq s).range = s.range := rfl
@[simp] theorem unmaskIrq_badSampleCount (s : State) : (unmaskIrq s).badSampleCount = s.badSampleCount := rfl
@[simp] theorem unmaskIrq_qAlloc (s : State) : (unmaskIrq s).qAlloc = s.qAlloc := rfl
@[simp] theorem unmaskIrq_qCap (s : State) : (unmaskIrq s).qCap = s.qCap := rfl
@[simp] theorem unmaskIrq_qRd (s : State) : (unmaskIrq s).qRd = s.qRd := rfl
@[simp] theorem unmaskIrq_qCnt (s : State) : (unmaskIrq s).qCnt = s.qCnt := rfl
@[simp] theorem unmaskIrq_memX (s : State) : (unmaskIrq s).memX = s.memX := rfl
@[simp] theorem unmaskIrq_memY (s : State) : (unmaskIrq s).memY = s.memY := rfl
@[simp] theorem unmaskIrq_memZ (s : State) : (unmaskIrq s).memZ = s.memZ := rfl
@[simp] theorem unmaskIrq_irqMask (s : State) : (unmaskIrq s).irqMask = false := rfl
@[simp] theorem unmaskIrq_irqPending (s : State) : (unmaskIrq s).irqPending = s.irqPending := rfl
@[simp] theorem unmaskIrq_context (s : State) : (unmaskIrq s).context = s.context := rfl
@[simp] theorem unmaskIrq_log (s : State) : (unmaskIrq s).log = s.log := rfl
@[simp] theorem unmaskIrq_params (s : State) : (unmaskIrq s).params = s.params := rfl
@[simp] theorem unmaskIrq_inbox (s : State) : (unmaskIrq s).inbox = s.inbox := rfl
@[simp] theorem unmaskIrq_epoch (s : State) : (unmaskIrq s).epoch = s.epoch := rfl
@[simp] theorem unmaskIrq_choices (s : State) : (unmaskIrq s).choices = s.choices := rfl

/-! ## `takeInterrupt` -/

@[simp] theorem takeInterrupt_mode (s : State) : (takeInterrupt s).mode = s.mode := rfl
@[simp] theorem takeInterrupt_timerPeriod (s : State) : (takeInterrupt s).timerPeriod = s.timerPeriod := rfl
@[simp] theorem takeInterrupt_range (s : State) : (takeInterrupt s).range = s.range := rfl
@[simp] theorem takeInterrupt_badSampleCount (s : State) : (takeInterrupt s).badSampleCount = s.badSampleCount := rfl
@[simp] theorem takeInterrupt_qAlloc (s : State) : (takeInterrupt s).qAlloc = s.qAlloc := rfl
@[simp] theorem takeInterrupt_qCap (s : State) : (takeInterrupt s).qCap = s.qCap := rfl
@[simp] theorem takeInterrupt_qRd (s : State) : (takeInterrupt s).qRd = s.qRd := rfl
@[simp] theorem takeInterrupt_qCnt (s : State) : (takeInterrupt s).qCnt = s.qCnt := rfl
@[simp] theorem takeInterrupt_memX (s : State) : (takeInterrupt s).memX = s.memX := rfl
@[simp] theorem takeInterrupt_memY (s : State) : (takeInterrupt s).memY = s.memY := rfl
@[simp] theorem takeInterrupt_memZ (s : State) : (takeInterrupt s).memZ = s.memZ := rfl
@[simp] theorem takeInterrupt_irqMask (s : State) : (takeInterrupt s).irqMask = s.irqMask := rfl
@[simp] theorem takeInterrupt_irqPending (s : State) : (takeInterrupt s).irqPending = false := rfl
@[simp] theorem takeInterrupt_context (s : State) : (takeInterrupt s).context = .interrupt := rfl
@[simp] theorem takeInterrupt_log (s : State) : (takeInterrupt s).log = s.log := rfl
@[simp] theorem takeInterrupt_params (s : State) : (takeInterrupt s).params = s.params := rfl
@[simp] theorem takeInterrupt_inbox (s : State) : (takeInterrupt s).inbox = s.inbox := rfl
@[simp] theorem takeInterrupt_epoch (s : State) : (takeInterrupt s).epoch = s.epoch := rfl
@[simp] theorem takeInterrupt_choices (s : State) : (takeInterrupt s).choices = s.choices := rfl

/-! ## `returnFromInterrupt` -/

@[simp] theorem returnFromInterrupt_mode (s : State) : (returnFromInterrupt s).mode = s.mode := rfl
@[simp] theorem returnFromInterrupt_timerPeriod (s : State) : (returnFromInterrupt s).timerPeriod = s.timerPeriod := rfl
@[simp] theorem returnFromInterrupt_range (s : State) : (returnFromInterrupt s).range = s.range := rfl
@[simp] theorem returnFromInterrupt_badSampleCount (s : State) : (returnFromInterrupt s).badSampleCount = s.badSampleCount := rfl
@[simp] theorem returnFromInterrupt_qAlloc (s : State) : (returnFromInterrupt s).qAlloc = s.qAlloc := rfl
@[simp] theorem returnFromInterrupt_qCap (s : State) : (returnFromInterrupt s).qCap = s.qCap := rfl
@[simp] theorem returnFromInterrupt_qRd (s : State) : (returnFromInterrupt s).qRd = s.qRd := rfl
@[simp] theorem returnFromInterrupt_qCnt (s : State) : (returnFromInterrupt s).qCnt = s.qCnt := rfl
@[simp] theorem returnFromInterrupt_memX (s : State) : (returnFromInterrupt s).memX = s.memX := rfl
@[simp] theorem returnFromInterrupt_memY (s : State) : (returnFromInterrupt s).memY = s.memY := rfl
@[simp] theorem returnFromInterrupt_memZ (s : State) : (returnFromInterrupt s).memZ = s.memZ := rfl
@[simp] theorem returnFromInterrupt_irqMask (s : State) : (returnFromInterrupt s).irqMask = s.irqMask := rfl
@[simp] theorem returnFromInterrupt_irqPending (s : State) : (returnFromInterrupt s).irqPending = s.irqPending := rfl
@[simp] theorem returnFromInterrupt_context (s : State) : (returnFromInterrupt s).context = .foreground := rfl
@[simp] theorem returnFromInterrupt_log (s : State) : (returnFromInterrupt s).log = s.log := rfl
@[simp] theorem returnFromInterrupt_params (s : State) : (returnFromInterrupt s).params = s.params := rfl
@[simp] theorem returnFromInterrupt_inbox (s : State) : (returnFromInterrupt s).inbox = s.inbox := rfl
@[simp] theorem returnFromInterrupt_epoch (s : State) : (returnFromInterrupt s).epoch = s.epoch := rfl
@[simp] theorem returnFromInterrupt_choices (s : State) : (returnFromInterrupt s).choices = s.choices := rfl

/-! ## `forgetMemories` -/

@[simp] theorem forgetMemories_mode (s : State) : (forgetMemories s).mode = s.mode := rfl
@[simp] theorem forgetMemories_timerPeriod (s : State) : (forgetMemories s).timerPeriod = s.timerPeriod := rfl
@[simp] theorem forgetMemories_range (s : State) : (forgetMemories s).range = s.range := rfl
@[simp] theorem forgetMemories_badSampleCount (s : State) : (forgetMemories s).badSampleCount = s.badSampleCount := rfl
@[simp] theorem forgetMemories_qAlloc (s : State) : (forgetMemories s).qAlloc = s.qAlloc := rfl
@[simp] theorem forgetMemories_qCap (s : State) : (forgetMemories s).qCap = s.qCap := rfl
@[simp] theorem forgetMemories_qRd (s : State) : (forgetMemories s).qRd = s.qRd := rfl
@[simp] theorem forgetMemories_qCnt (s : State) : (forgetMemories s).qCnt = s.qCnt := rfl
@[simp] theorem forgetMemories_memX (s : State) : (forgetMemories s).memX = [] := rfl
@[simp] theorem forgetMemories_memY (s : State) : (forgetMemories s).memY = [] := rfl
@[simp] theorem forgetMemories_memZ (s : State) : (forgetMemories s).memZ = [] := rfl
@[simp] theorem forgetMemories_irqMask (s : State) : (forgetMemories s).irqMask = s.irqMask := rfl
@[simp] theorem forgetMemories_irqPending (s : State) : (forgetMemories s).irqPending = s.irqPending := rfl
@[simp] theorem forgetMemories_context (s : State) : (forgetMemories s).context = s.context := rfl
@[simp] theorem forgetMemories_log (s : State) : (forgetMemories s).log = s.log := rfl
@[simp] theorem forgetMemories_params (s : State) : (forgetMemories s).params = s.params := rfl
@[simp] theorem forgetMemories_inbox (s : State) : (forgetMemories s).inbox = s.inbox := rfl
@[simp] theorem forgetMemories_epoch (s : State) : (forgetMemories s).epoch = s.epoch + 1 := rfl
@[simp] theorem forgetMemories_choices (s : State) : (forgetMemories s).choices = s.choices := rfl

/-! ## `queueDeAllocate` -/

@[simp] theorem queueDeAllocate_mode (s : State) : (queueDeAllocate s).mode = s.mode := rfl
@[simp] theorem queueDeAllocate_timerPeriod (s : State) : (queueDeAllocate s).timerPeriod = s.timerPeriod := rfl
@[simp] theorem queueDeAllocate_range (s : State) : (queueDeAllocate s).range = s.range := rfl
@[simp] theorem queueDeAllocate_badSampleCount (s : State) : (queueDeAllocate s).badSampleCount = s.badSampleCount := rfl
@[simp] theorem queueDeAllocate_qAlloc (s : State) : (queueDeAllocate s).qAlloc = false := rfl
@[simp] theorem queueDeAllocate_qCap (s : State) : (queueDeAllocate s).qCap = 0 := rfl
@[simp] theorem queueDeAllocate_qRd (s : State) : (queueDeAllocate s).qRd = 0 := rfl
@[simp] theorem queueDeAllocate_qCnt (s : State) : (queueDeAllocate s).qCnt = 0 := rfl
@[simp] theorem queueDeAllocate_memX (s : State) : (queueDeAllocate s).memX = [] := rfl
@[simp] theorem queueDeAllocate_memY (s : State) : (queueDeAllocate s).memY = [] := rfl
@[simp] theorem queueDeAllocate_memZ (s : State) : (queueDeAllocate s).memZ = [] := rfl
@[simp] theorem queueDeAllocate_irqMask (s : State) : (queueDeAllocate s).irqMask = s.irqMask := rfl
@[simp] theorem queueDeAllocate_irqPending (s : State) : (queueDeAllocate s).irqPending = s.irqPending := rfl
@[simp] theorem queueDeAllocate_context (s : State) : (queueDeAllocate s).context = s.context := rfl
@[simp] theorem queueDeAllocate_log (s : State) : (queueDeAllocate s).log = s.log := rfl
@[simp] theorem queueDeAllocate_params (s : State) : (queueDeAllocate s).params = s.params := rfl
@[simp] theorem queueDeAllocate_inbox (s : State) : (queueDeAllocate s).inbox = s.inbox := rfl
@[simp] theorem queueDeAllocate_epoch (s : State) : (queueDeAllocate s).epoch = s.epoch + 1 := rfl
@[simp] theorem queueDeAllocate_choices (s : State) : (queueDeAllocate s).choices = s.choices := rfl

/-! ## `resetState` -/

@[simp] theorem resetState_mode (s : State) : (resetState s).mode = .stopped := rfl
@[simp] theorem resetState_timerPeriod (s : State) : (resetState s).timerPeriod = s.params.defaultTimerPeriod := rfl
@[simp] theorem resetState_range (s : State) : (resetState s).range = s.params.defaultRange := rfl
@[simp] theorem resetState_badSampleCount (s : State) : (resetState s).badSampleCount = 0 := rfl
@[simp] theorem resetState_qAlloc (s : State) : (resetState s).qAlloc = false := rfl
@[simp] theorem resetState_qCap (s : State) : (resetState s).qCap = 0 := rfl
@[simp] theorem resetState_qRd (s : State) : (resetState s).qRd = 0 := rfl
@[simp] theorem resetState_qCnt (s : State) : (resetState s).qCnt = 0 := rfl
@[simp] theorem resetState_memX (s : State) : (resetState s).memX = [] := rfl
@[simp] theorem resetState_memY (s : State) : (resetState s).memY = [] := rfl
@[simp] theorem resetState_memZ (s : State) : (resetState s).memZ = [] := rfl
@[simp] theorem resetState_irqMask (s : State) : (resetState s).irqMask = false := rfl
@[simp] theorem resetState_irqPending (s : State) : (resetState s).irqPending = false := rfl
@[simp] theorem resetState_context (s : State) : (resetState s).context = .foreground := rfl
@[simp] theorem resetState_log (s : State) : (resetState s).log = [.tmrInit s.params.defaultTimerPeriod] := rfl
@[simp] theorem resetState_params (s : State) : (resetState s).params = s.params := rfl
@[simp] theorem resetState_inbox (s : State) : (resetState s).inbox = s.inbox := rfl
@[simp] theorem resetState_epoch (s : State) : (resetState s).epoch = s.epoch + 1 := rfl
@[simp] theorem resetState_choices (s : State) : (resetState s).choices = s.choices := rfl

/-! ## `writeSample` -/

@[simp] theorem writeSample_mode (s : State) (i : Nat) (v : Sample) :
    (writeSample s i v).mode = s.mode := rfl
@[simp] theorem writeSample_timerPeriod (s : State) (i : Nat) (v : Sample) :
    (writeSample s i v).timerPeriod = s.timerPeriod := rfl
@[simp] theorem writeSample_range (s : State) (i : Nat) (v : Sample) :
    (writeSample s i v).range = s.range := rfl
@[simp] theorem writeSample_badSampleCount (s : State) (i : Nat) (v : Sample) :
    (writeSample s i v).badSampleCount = s.badSampleCount := rfl
@[simp] theorem writeSample_qAlloc (s : State) (i : Nat) (v : Sample) :
    (writeSample s i v).qAlloc = s.qAlloc := rfl
@[simp] theorem writeSample_qCap (s : State) (i : Nat) (v : Sample) :
    (writeSample s i v).qCap = s.qCap := rfl
@[simp] theorem writeSample_qRd (s : State) (i : Nat) (v : Sample) :
    (writeSample s i v).qRd = s.qRd := rfl
@[simp] theorem writeSample_qCnt (s : State) (i : Nat) (v : Sample) :
    (writeSample s i v).qCnt = s.qCnt := rfl
@[simp] theorem writeSample_irqMask (s : State) (i : Nat) (v : Sample) :
    (writeSample s i v).irqMask = s.irqMask := rfl
@[simp] theorem writeSample_irqPending (s : State) (i : Nat) (v : Sample) :
    (writeSample s i v).irqPending = s.irqPending := rfl
@[simp] theorem writeSample_context (s : State) (i : Nat) (v : Sample) :
    (writeSample s i v).context = s.context := rfl
@[simp] theorem writeSample_log (s : State) (i : Nat) (v : Sample) :
    (writeSample s i v).log = s.log := rfl
@[simp] theorem writeSample_params (s : State) (i : Nat) (v : Sample) :
    (writeSample s i v).params = s.params := rfl
@[simp] theorem writeSample_inbox (s : State) (i : Nat) (v : Sample) :
    (writeSample s i v).inbox = s.inbox := rfl
@[simp] theorem writeSample_epoch (s : State) (i : Nat) (v : Sample) :
    (writeSample s i v).epoch = s.epoch := rfl
@[simp] theorem writeSample_choices (s : State) (i : Nat) (v : Sample) :
    (writeSample s i v).choices = s.choices := rfl

@[simp] theorem writeSample_channel (s : State) (i : Nat) (v : Sample) (ch : Channel) :
    (writeSample s i v).channel ch = storeS16 (s.channel ch) i (sampleAxis v ch) := by cases ch <;> rfl

/-! ## `channel` and `readByte` see the memories and the epoch only -/

theorem channel_congr {s t : State} (hx : t.memX = s.memX) (hy : t.memY = s.memY) (hz : t.memZ = s.memZ)
    (ch : Channel) : t.channel ch = s.channel ch := by
  cases ch <;> simp [State.channel, hx, hy, hz]

theorem readByte_congr {s t : State} (hx : t.memX = s.memX) (hy : t.memY = s.memY) (hz : t.memZ = s.memZ)
    (he : t.epoch = s.epoch) (ch : Channel) (a : Nat) : readByte t ch a = readByte s ch a := by
  simp [readByte, channel_congr hx hy hz, he]

theorem readSample_congr {s t : State} (hx : t.memX = s.memX) (hy : t.memY = s.memY)
    (hz : t.memZ = s.memZ) (he : t.epoch = s.epoch) (idx : Nat) : readSample t idx = readSample s idx := by
  simp [readSample, readS16, readByte_congr hx hy hz he]

/-! ## `channel` under the updates that leave the memories alone -/

@[simp] theorem channel_setMode (m : Mode) (s : State) (ch : Channel) :
    (setMode m s).channel ch = s.channel ch := by cases ch <;> rfl
@[simp] theorem channel_emit (o : OutTxn) (s : State) (ch : Channel) :
    (emit o s).channel ch = s.channel ch := by cases ch <;> rfl
@[simp] theorem channel_maskIrq (s : State) (ch : Channel) :
    (maskIrq s).channel ch = s.channel ch := by cases ch <;> rfl
@[simp] theorem channel_unmaskIrq (s : State) (ch : Channel) :
    (unmaskIrq s).channel ch = s.channel ch := by cases ch <;> rfl
@[simp] theorem channel_takeInterrupt (s : State) (ch : Channel) :
    (takeInterrupt s).channel ch = s.channel ch := by cases ch <;> rfl
@[simp] theorem channel_returnFromInterrupt (s : State) (ch : Channel) :
    (returnFromInterrupt s).channel ch = s.channel ch := by cases ch <;> rfl

@[simp] theorem channel_forgetMemories (s : State) (ch : Channel) : (forgetMemories s).channel ch = [] := by
  cases ch <;> rfl

end Sys2Proof.Machine
end

