-- ==== Sys2Proof/Laws/Memory.lean ====
section
/-! SUPPORT. The byte memory's laws: read after write, the canonical form, and what a write of a byte, a
sample or a triplet changes. -/

namespace Sys2Proof.Machine

/-! ## Bytes -/

/-- A read after a write. -/
theorem memRead_memWrite (m : Memory) (a c : Nat) (b : Byte) :
    memRead (memWrite m a b) c = if a = c then some b else memRead m c := by
  induction m with
  | nil => simp [memWrite, memRead]
  | cons hd tl ih =>
    obtain ⟨a', b'⟩ := hd
    simp only [memWrite]
    split
    · simp [memRead]
    · split
      · rename_i h; subst h; by_cases h : a = c <;> simp [memRead, h]
      · simp only [memRead, ih]
        by_cases h1 : a' = c <;> by_cases h2 : a = c <;> simp_all

/-- Every address listed after a write was listed before, or is the one written. -/
theorem mem_memWrite {m : Memory} {a : Nat} {b : Byte} {c : Host.Cell} (h : c ∈ memWrite m a b) :
    c = (a, b) ∨ c ∈ m := by
  induction m with
  | nil => simpa [memWrite] using h
  | cons hd tl ih =>
    obtain ⟨a', b'⟩ := hd
    simp only [memWrite] at h
    split at h
    · simpa using h
    · split at h
      · rcases List.mem_cons.1 h with h | h
        · exact .inl h
        · exact .inr (List.mem_cons_of_mem _ h)
      · rcases List.mem_cons.1 h with h | h
        · exact .inr (by simp [h])
        · exact (ih h).imp id (List.mem_cons_of_mem _)

/-- A write keeps the canonical form. -/
theorem memWf_memWrite {m : Memory} (h : memWf m) (a : Nat) (b : Byte) : memWf (memWrite m a b) := by
  induction m with
  | nil => simp [memWrite, memWf]
  | cons hd tl ih =>
    obtain ⟨a', b'⟩ := hd
    have h1 := List.pairwise_cons.1 h
    simp only [memWrite]
    split
    · rename_i hlt
      refine List.pairwise_cons.2 ⟨fun c hc => ?_, h⟩
      rcases List.mem_cons.1 hc with rfl | hc
      · exact hlt
      · exact Nat.lt_trans hlt (h1.1 c hc)
    · split
      · rename_i heq
        subst heq
        exact List.pairwise_cons.2 ⟨fun c hc => h1.1 c hc, h1.2⟩
      · rename_i hlt hne
        refine List.pairwise_cons.2 ⟨fun c hc => ?_, ih h1.2⟩
        rcases mem_memWrite hc with rfl | hc
        · show a' < a; omega
        · exact h1.1 c hc

/-- Reset's memories have the canonical form. -/
theorem memWf_nil : memWf [] := List.Pairwise.nil

/-! ## A sample -/

/-- Putting the two bytes of a sample together again. -/
theorem bytes_of_s16 (v : S16) : v.extractLsb' 8 8 ++ v.extractLsb' 0 8 = v := by
  apply BitVec.eq_of_getLsbD_eq
  intro i hi
  rw [BitVec.getLsbD_append]
  by_cases h : i < 8
  · simp [h]
  · have h1 : i - 8 < 8 := by omega
    have h2 : 8 + (i - 8) = i := by omega
    simp [h, h1, h2]

/-- The bytes listed after a sample was stored: its own two, and every other as before. -/
theorem memRead_storeS16 (m : Memory) (idx c : Nat) (v : S16) :
    memRead (storeS16 m idx v) c =
      if c = 2 * idx + 1 then some (v.extractLsb' 8 8)
      else if c = 2 * idx then some (v.extractLsb' 0 8)
      else memRead m c := by
  simp only [storeS16, memRead_memWrite, eq_comm (b := c)]

/-- Storing a sample keeps the canonical form. -/
theorem memWf_storeS16 {m : Memory} (h : memWf m) (idx : Nat) (v : S16) : memWf (storeS16 m idx v) :=
  memWf_memWrite (memWf_memWrite h _ _) _ _

/-- Every byte listed after a sample was stored at an existing index exists. -/
theorem bounded_storeS16 {m : Memory} {n idx : Nat} (h : ∀ c ∈ m, c.1 < 2 * n) (hi : idx < n) (v : S16) :
    ∀ c ∈ storeS16 m idx v, c.1 < 2 * n := by
  intro c hc
  rcases mem_memWrite hc with rfl | hc
  · show 2 * idx + 1 < 2 * n; omega
  · rcases mem_memWrite hc with rfl | hc
    · show 2 * idx < 2 * n; omega
    · exact h c hc

/-! ## A triplet -/

/-- The bytes of a channel after a triplet was stored: its own two, and every other as before. -/
theorem readByte_writeSample (s : State) (i c : Nat) (v : Sample) (ch : Channel) :
    readByte (writeSample s i v) ch c =
      if c = 2 * i + 1 then (sampleAxis v ch).extractLsb' 8 8
      else if c = 2 * i then (sampleAxis v ch).extractLsb' 0 8
      else readByte s ch c := by
  simp only [readByte, writeSample_channel, memRead_storeS16, writeSample_epoch]
  by_cases h1 : c = 2 * i + 1
  · simp [h1]
  · by_cases h2 : c = 2 * i <;> simp [h1, h2]

/-- One axis read after a triplet was stored. -/
theorem readS16_writeSample (s : State) (i j : Nat) (v : Sample) (ch : Channel) :
    readS16 (writeSample s i v) ch j = if i = j then sampleAxis v ch else readS16 s ch j := by
  simp only [readS16, readByte_writeSample]
  by_cases hij : i = j
  · subst hij
    simp [bytes_of_s16]
  · have h1 : ¬ 2 * j = 2 * i + 1 := by omega
    have h2 : ¬ 2 * j + 1 = 2 * i := by omega
    have h3 : ¬ j = i := fun h => hij h.symm
    simp [hij, h1, h2, h3]

/-- A triplet read after a triplet was stored: the one stored, or the one there before. -/
theorem readSample_writeSample (s : State) (i j : Nat) (v : Sample) :
    readSample (writeSample s i v) j = if i = j then v else readSample s j := by
  simp only [readSample, readS16_writeSample]
  by_cases h : i = j <;> simp [h, sampleAxis]

/-- Which bytes have been written after a triplet was stored. -/
theorem written_writeSample (s : State) (i c : Nat) (v : Sample) (ch : Channel) :
    written (writeSample s i v) ch c ↔ c = 2 * i + 1 ∨ c = 2 * i ∨ written s ch c := by
  simp only [written, writeSample_channel, memRead_storeS16]
  by_cases h1 : c = 2 * i + 1 <;> by_cases h2 : c = 2 * i <;> simp [h1, h2]

end Sys2Proof.Machine
end

