-- ==== Sys2Proof/Laws/Ops.lean ====
section
/-! SUPPORT. Each shared operation's lemma: once, everything it can do. The state that a successful
primitive answers is written out as a record update, which is its frame as well. -/

namespace Sys2Proof.Machine

/-! ## The conditions empty and full (10_state R22) -/

theorem queueEmpty_iff (s : State) : s.isEmpty = true ↔ s.qCnt = 0 := by simp [State.isEmpty]

theorem isFull_iff (s : State) : s.isFull = true ↔ s.qCap ≤ s.qCnt := by simp [State.isFull]

theorem isFull_eq_false_iff (s : State) : s.isFull = false ↔ s.qCnt < s.qCap := by
  rw [← Bool.not_eq_true, isFull_iff, BitVec.not_le]

/-! ## SampleQueue -/

/-- `push` on an unallocated queue (60_exceptions R184). -/
theorem queuePush_unallocated (v : Sample) (s : State) (h : s.qAlloc = false) :
    queuePush v s = .error (.queueNotAllocated .push) := by simp [queuePush, h]

/-- `push` into a full queue drops the sample (40_queue_primitives R91). -/
theorem queuePush_full (v : Sample) (s : State) (h : s.qAlloc = true) (hf : s.isFull = true) :
    queuePush v s = .ok { s with irqMask := false } := by
  rw [queuePush, if_neg (by simp [h]), if_pos hf]; rfl

/-- `push` into a queue with room (40_queue_primitives R91). -/
theorem queuePush_room (v : Sample) (s : State) (h : s.qAlloc = true) (hf : s.isFull = false)
    (hi : writeIndex s < s.params.maxCapacity) :
    queuePush v s =
      .ok { writeSample s (writeIndex s) v with qCnt := s.qCnt + 1, irqMask := false } := by
  have hq : qMemWrite (maskIrq s) (writeIndex s) v = .ok (writeSample (maskIrq s) (writeIndex s) v) :=
    if_pos hi
  rw [queuePush, if_neg (by simp [h]), if_neg (by simp [hf]), hq]; rfl

/-- `push` into a queue with room whose write index does not exist (log 7). -/
theorem queuePush_noSuchIndex (v : Sample) (s : State) (h : s.qAlloc = true) (hf : s.isFull = false)
    (hi : ¬ writeIndex s < s.params.maxCapacity) :
    queuePush v s = .error (.noSuchIndex (writeIndex s)) := by
  have hq : qMemWrite (maskIrq s) (writeIndex s) v = .error (.noSuchIndex (writeIndex s)) := if_neg hi
  rw [queuePush, if_neg (by simp [h]), if_neg (by simp [hf]), hq]

/-- Everything a successful `push` can do: the sample was dropped, or stored at the write index. -/
theorem queuePush_ok {v : Sample} {s s' : State} (h : queuePush v s = .ok s') :
    s.qAlloc = true ∧
      ((s.isFull = true ∧ s' = { s with irqMask := false }) ∨
        (s.isFull = false ∧ writeIndex s < s.params.maxCapacity ∧
          s' = { writeSample s (writeIndex s) v with qCnt := s.qCnt + 1, irqMask := false })) := by
  rcases Bool.eq_false_or_eq_true s.qAlloc with ha | ha
  · rcases Bool.eq_false_or_eq_true s.isFull with hf | hf
    · rw [queuePush_full v s ha hf] at h
      exact ⟨ha, .inl ⟨hf, (Except.ok.inj h).symm⟩⟩
    · by_cases hi : writeIndex s < s.params.maxCapacity
      · rw [queuePush_room v s ha hf hi] at h
        exact ⟨ha, .inr ⟨hf, hi, (Except.ok.inj h).symm⟩⟩
      · rw [queuePush_noSuchIndex v s ha hf hi] at h; cases h
  · rw [queuePush_unallocated v s ha] at h; cases h

/-- Every fault of `push`. -/
theorem queuePush_error {v : Sample} {s : State} {f : Fault} (h : queuePush v s = .error f) :
    (s.qAlloc = false ∧ f = .queueNotAllocated .push) ∨
      (s.isFull = false ∧ s.params.maxCapacity ≤ writeIndex s ∧ f = .noSuchIndex (writeIndex s)) := by
  rcases Bool.eq_false_or_eq_true s.qAlloc with ha | ha
  · rcases Bool.eq_false_or_eq_true s.isFull with hf | hf
    · rw [queuePush_full v s ha hf] at h; cases h
    · by_cases hi : writeIndex s < s.params.maxCapacity
      · rw [queuePush_room v s ha hf hi] at h; cases h
      · rw [queuePush_noSuchIndex v s ha hf hi] at h
        exact .inr ⟨hf, Nat.not_lt.1 hi, (Except.error.inj h).symm⟩
  · rw [queuePush_unallocated v s ha] at h
    exact .inl ⟨ha, (Except.error.inj h).symm⟩

/-- `pop` of a queue that holds a sample (40_queue_primitives R92). -/
theorem queuePop_some (s : State) (h : s.qAlloc = true) (hc : s.qCnt ≠ 0)
    (hi : s.qRd.toNat < s.params.maxCapacity) :
    queuePop s = .ok (readSample s s.qRd.toNat,
      { s with qRd := nextReadIndex s, qCnt := s.qCnt - 1, irqMask := false }) := by
  have hq : qMemRead (maskIrq s) s.qRd.toNat = .ok (readSample s s.qRd.toNat) := if_pos hi
  rw [queuePop, if_neg (by simp [h]), if_neg (by rwa [queueEmpty_iff]), hq]; rfl

/-- `pop` at a read index that does not exist (log 7). -/
theorem queuePop_noSuchIndex (s : State) (h : s.qAlloc = true) (hc : s.qCnt ≠ 0)
    (hi : ¬ s.qRd.toNat < s.params.maxCapacity) :
    queuePop s = .error (.noSuchIndex s.qRd.toNat) := by
  have hq : qMemRead (maskIrq s) s.qRd.toNat = .error (.noSuchIndex s.qRd.toNat) := if_neg hi
  rw [queuePop, if_neg (by simp [h]), if_neg (by rwa [queueEmpty_iff]), hq]

/-- `clear` of an allocated queue (40_queue_primitives R94). -/
theorem queueClear_allocated (s : State) (h : s.qAlloc = true) :
    queueClear s = .ok { s with qRd := 0, qCnt := 0 } := if_neg (by simp [h])

/-- `clear` of an unallocated queue (60_exceptions R184). -/
theorem queueClear_unallocated (s : State) (h : s.qAlloc = false) :
    queueClear s = .error (.queueNotAllocated .clear) := if_pos h

/-- Everything a successful `clear` can do. -/
theorem queueClear_ok {s s' : State} (h : queueClear s = .ok s') :
    s.qAlloc = true ∧ s' = { s with qRd := 0, qCnt := 0 } := by
  rcases Bool.eq_false_or_eq_true s.qAlloc with ha | ha
  · rw [queueClear_allocated s ha] at h; exact ⟨ha, (Except.ok.inj h).symm⟩
  · rw [queueClear_unallocated s ha] at h; cases h

/-- Everything a successful `init` can do (40_queue_primitives R90). -/
theorem queueInit_ok {c : U16} {s s' : State} (h : queueInit c s = .ok s') :
    c.toNat ≤ s.params.maxCapacity ∧
      s' = forgetMemories { s with qAlloc := true, qCap := c, qRd := 0, qCnt := 0 } := by
  unfold queueInit at h
  split at h
  · cases h
  · rename_i hc; exact ⟨Nat.not_lt.1 hc, (Except.ok.inj h).symm⟩

/-- Sending from an unallocated queue: `size` refuses (60_exceptions R184). -/
theorem sendOldest_unallocated (s : State) (h : s.qAlloc = false) :
    sendOldest s = .error (.queueNotAllocated .size) := by simp [sendOldest, queueSize, h]

/-- Sending from an empty queue: no pop and no response (42_host_commands R136). -/
theorem sendOldest_empty (s : State) (h : s.qAlloc = true) (hc : s.qCnt = 0) : sendOldest s = .ok s := by
  simp [sendOldest, queueSize, h, hc]

/-- Sending from a queue that holds a sample. -/
theorem sendOldest_some (s : State) (h : s.qAlloc = true) (hc : s.qCnt ≠ 0)
    (hi : s.qRd.toNat < s.params.maxCapacity) :
    sendOldest s = .ok (emit (.respSample (readSample s s.qRd.toNat))
      { s with qRd := nextReadIndex s, qCnt := s.qCnt - 1, irqMask := false }) := by
  have hs : queueSize s = .ok s.qCnt := if_neg (by simp [h])
  simp only [sendOldest, hs, if_neg hc, queuePop_some s h hc hi]

/-- Sending from a read index that does not exist (log 7). -/
theorem sendOldest_noSuchIndex (s : State) (h : s.qAlloc = true) (hc : s.qCnt ≠ 0)
    (hi : ¬ s.qRd.toNat < s.params.maxCapacity) : sendOldest s = .error (.noSuchIndex s.qRd.toNat) := by
  have hs : queueSize s = .ok s.qCnt := if_neg (by simp [h])
  simp only [sendOldest, hs, if_neg hc, queuePop_noSuchIndex s h hc hi]

/-- Everything that sending the oldest sample can do when it succeeds: nothing on an empty queue, else the
sample at the read index is handed over and dequeued. -/
theorem sendOldest_ok {s s' : State} (h : sendOldest s = .ok s') :
    s.qAlloc = true ∧
      ((s.qCnt = 0 ∧ s' = s) ∨
        (s.qCnt ≠ 0 ∧ s.qRd.toNat < s.params.maxCapacity ∧
          s' = emit (.respSample (readSample s s.qRd.toNat))
            { s with qRd := nextReadIndex s, qCnt := s.qCnt - 1, irqMask := false })) := by
  rcases Bool.eq_false_or_eq_true s.qAlloc with ha | ha
  · refine ⟨ha, ?_⟩
    by_cases hc : s.qCnt = 0
    · rw [sendOldest_empty s ha hc] at h; exact .inl ⟨hc, (Except.ok.inj h).symm⟩
    · by_cases hi : s.qRd.toNat < s.params.maxCapacity
      · rw [sendOldest_some s ha hc hi] at h; exact .inr ⟨hc, hi, (Except.ok.inj h).symm⟩
      · rw [sendOldest_noSuchIndex s ha hc hi] at h; cases h
  · rw [sendOldest_unallocated s ha] at h; cases h

/-- Every fault of sending the oldest sample. -/
theorem sendOldest_error {s : State} {f : Fault} (h : sendOldest s = .error f) :
    (s.qAlloc = false ∧ f = .queueNotAllocated .size) ∨
      (s.qCnt ≠ 0 ∧ s.params.maxCapacity ≤ s.qRd.toNat ∧ f = .noSuchIndex s.qRd.toNat) := by
  rcases Bool.eq_false_or_eq_true s.qAlloc with ha | ha
  · by_cases hc : s.qCnt = 0
    · rw [sendOldest_empty s ha hc] at h; cases h
    · by_cases hi : s.qRd.toNat < s.params.maxCapacity
      · rw [sendOldest_some s ha hc hi] at h; cases h
      · rw [sendOldest_noSuchIndex s ha hc hi] at h
        exact .inr ⟨hc, Nat.not_lt.1 hi, (Except.error.inj h).symm⟩
  · rw [sendOldest_unallocated s ha] at h; exact .inl ⟨ha, (Except.error.inj h).symm⟩

/-! ## DeviceState -/

/-- Everything `setTimerPeriod` can do (41_devicestate_primitives R110). -/
theorem setTimerPeriod_cases (v : U32) (s : State) :
    (periodAccepted s.params v = true ∧
        setTimerPeriod v s = (true, emit (.tmrSetPeriod v) { s with timerPeriod := v })) ∨
      (periodAccepted s.params v = false ∧ setTimerPeriod v s = (false, s)) := by
  cases h : periodAccepted s.params v <;> simp [setTimerPeriod, h]

theorem periodAccepted_iff (p : Params) (v : U32) :
    periodAccepted p v = true ↔ p.minTimerPeriod ≤ v ∧ v ≤ p.maxTimerPeriod := by simp [periodAccepted]

/-- Everything `setRange` can do (41_devicestate_primitives R112). -/
theorem setRange_cases (v : U32) (s : State) :
    (rangeAccepted v = true ∧ setRange v s = (true, { s with range := rangeField v })) ∨
      (rangeAccepted v = false ∧ setRange v s = (false, s)) := by
  cases h : rangeAccepted v <;> simp [setRange, h]

theorem rangeAccepted_iff (v : U32) : rangeAccepted v = true ↔ v = 2 ∨ v = 4 ∨ v = 8 ∨ v = 16 := by
  simp [rangeAccepted, or_assoc]

/-- An accepted range's field is a member of the set (10_state R26). -/
theorem rangeField_mem {v : U32} (h : rangeAccepted v = true) : inRangeSet (rangeField v) := by
  rcases (rangeAccepted_iff v).1 h with rfl | rfl | rfl | rfl <;> decide

/-- `noteBadSample` changes the counter and nothing else (41_devicestate_primitives R115). -/
theorem noteBadSample_frame (s : State) :
    noteBadSample s = { s with badSampleCount := (noteBadSample s).badSampleCount } := by
  unfold noteBadSample
  split
  · rfl
  · split <;> rfl

end Sys2Proof.Machine
end

