-- ==== Sys2Proof/Laws/Exec.lean ====
section
/-! SUPPORT. Once, everything an instruction can do: `Effect` lists every next state a meaning can answer,
`exec_next` says that there is no other, `exec_fault` lists every fault. -/

namespace Sys2Proof.Machine

/-! ## The tick -/

/-- The state in which a tick in Streaming pushes: interrupt taken, source read, a bad sample counted. -/
def tickStart (bad : Bool) (s : State) : State :=
  { s with
    badSampleCount := badCountAfter s.params bad s.badSampleCount
    irqPending := false
    context := .interrupt
    log := s.log ++ [.srcRead] }

/-- Counting a bad sample, where the counter exists, in one expression (41_devicestate_primitives R115). -/
theorem noteBadSample_eq (bad : Bool) (s : State) :
    (if bad && s.params.hasBadSampleCount then noteBadSample s else s) =
      { s with badSampleCount := badCountAfter s.params bad s.badSampleCount } := by
  unfold badCountAfter noteBadSample badCountTop
  cases bad <;> cases hp : s.params.hasBadSampleCount <;> simp
  split
  · rfl
  · cases hq : s.params.badCountPolicy <;> simp

/-- Steps 2 to 4 of TICK are one push from `tickStart` (43_events R160). -/
theorem acquire_takeInterrupt (v : Sample) (bad : Bool) (s : State) :
    acquire v bad (takeInterrupt s) = queuePush v (tickStart bad s) :=
  congrArg (queuePush v) (noteBadSample_eq bad (emit .srcRead (takeInterrupt s)))

/-- TICK in Streaming (43_events R160). -/
theorem execTick_streaming (v : Sample) (bad : Bool) (s : State) (h : s.mode = .streaming) :
    execTick v bad s =
      ofPrimitive ((queuePush v (tickStart bad s)).map returnFromInterrupt) := by
  have h' : (takeInterrupt s).mode = .streaming := h
  simp only [execTick, h', acquire_takeInterrupt]
  cases queuePush v (tickStart bad s) <;> rfl

/-! ## Every next state -/

/-- The state after the oldest sample was handed over and dequeued. -/
def sentState (s : State) : State :=
  { s with
    qRd := nextReadIndex s
    qCnt := s.qCnt - 1
    irqMask := false
    log := s.log ++ [.respSample (readSample s s.qRd.toNat)] }

/-- The state after a tick in Streaming stored its sample. -/
def storedState (v : Sample) (bad : Bool) (s : State) : State :=
  { writeSample s (writeIndex s) v with
    badSampleCount := badCountAfter s.params bad s.badSampleCount
    qCnt := s.qCnt + 1
    irqMask := false
    irqPending := false
    context := .foreground
    log := s.log ++ [.srcRead] }

/-- Everything an instruction can do when it has a next state. -/
inductive Effect (s : State) : Instr → State → Prop where
  | stop : s.qAlloc = true → Effect s .stopStream { s with mode := .stopped, qRd := 0, qCnt := 0 }
  | start : s.mode = .stopped → s.qAlloc = true →
      Effect s .startStream { s with mode := .streaming, qRd := 0, qCnt := 0 }
  | startAgain : s.mode = .streaming → s.params.startClearsWhenStreaming = false → Effect s .startStream s
  | startClears : s.mode = .streaming → s.params.startClearsWhenStreaming = true → s.qAlloc = true →
      Effect s .startStream { s with qRd := 0, qCnt := 0 }
  | setPeriod (v : U32) : periodAccepted s.params v = true →
      Effect s (.setTimerPeriod v) { s with timerPeriod := v, log := s.log ++ [.tmrSetPeriod v] }
  | setPeriodRejected (v : U32) : periodAccepted s.params v = false → Effect s (.setTimerPeriod v) s
  | getPeriod : Effect s .getTimerPeriod { s with log := s.log ++ [.respValue s.timerPeriod] }
  | setRange (v : U32) : s.params.hasRange = true → rangeAccepted v = true →
      Effect s (.setRange v) { s with range := rangeField v }
  | setRangeRejected (v : U32) : s.params.hasRange = true → rangeAccepted v = false →
      Effect s (.setRange v) s
  | setRangeAbsent (v : U32) : s.params.hasRange = false → Effect s (.setRange v) s
  | getRange : s.params.hasRange = true →
      Effect s .getRange { s with log := s.log ++ [.respValue (zext32 s.range)] }
  | getRangeAbsent : s.params.hasRange = false → Effect s .getRange s
  | getSample : s.qAlloc = true → s.qCnt ≠ 0 → s.qRd.toNat < s.params.maxCapacity →
      Effect s .getSample (sentState s)
  | getSampleEmpty : s.qAlloc = true → s.qCnt = 0 → Effect s .getSample s
  | getMax : Effect s .getMaxTimerPeriod { s with log := s.log ++ [.respValue s.params.maxTimerPeriod] }
  | getMin : Effect s .getMinTimerPeriod { s with log := s.log ++ [.respValue s.params.minTimerPeriod] }
  | getBad : s.params.hasBadSampleCount = true →
      Effect s .getBadSampleCount { s with log := s.log ++ [.respValue s.badSampleCount] }
  | getBadAbsent : s.params.hasBadSampleCount = false → Effect s .getBadSampleCount s
  | cmd (w : CmdWord) (i : Instr) (t : State) : decodeCommand s.params w = .ok i → Effect s i t →
      Effect s (.cmd w) t
  | cmdIgnored (w : CmdWord) (e : DecodeError) : decodeCommand s.params w = .error e → Effect s (.cmd w) s
  | tickStopped (v : Sample) (bad : Bool) : s.mode = .stopped →
      Effect s (.tick v bad) { s with irqPending := false, context := .foreground }
  | tickDropped (v : Sample) (bad : Bool) : s.mode = .streaming → s.qAlloc = true → s.qCap ≤ s.qCnt →
      Effect s (.tick v bad)
        { s with
          badSampleCount := badCountAfter s.params bad s.badSampleCount
          irqMask := false
          irqPending := false
          context := .foreground
          log := s.log ++ [.srcRead] }
  | tickStored (v : Sample) (bad : Bool) : s.mode = .streaming → s.qAlloc = true → s.qCnt < s.qCap →
      writeIndex s < s.params.maxCapacity → Effect s (.tick v bad) (storedState v bad s)
  | drainStopped : s.mode = .stopped → Effect s .drain s
  | drainEmpty : s.mode = .streaming → s.qAlloc = true → s.qCnt = 0 → Effect s .drain s
  | drain : s.mode = .streaming → s.qAlloc = true → s.qCnt ≠ 0 → s.qRd.toNat < s.params.maxCapacity →
      Effect s .drain (sentState s)
  | init (c : U16) : c.toNat ≤ s.params.maxCapacity →
      Effect s (.init c) (forgetMemories { s with qAlloc := true, qCap := c, qRd := 0, qCnt := 0 })
  | dealloc : Effect s .dealloc (queueDeAllocate s)
  | reset : Effect s .reset (resetState s)

/-- An answer that is a next state comes from a primitive that succeeded. -/
theorem ofPrimitive_next {r : Except Fault State} {t : State} (h : ofPrimitive r = .next t) :
    r = .ok t := by
  cases r with
  | ok s => exact congrArg Except.ok (Host.Outcome.next.inj h)
  | error f => cases h

/-- An answer that is a fault comes from a primitive that failed. -/
theorem ofPrimitive_fault {r : Except Fault State} {f : Fault} (h : ofPrimitive r = .fault f) :
    r = .error f := by
  cases r with
  | ok s => cases h
  | error g => exact congrArg Except.error (Host.Outcome.fault.inj h)

/-- What sending the oldest sample answers, as an effect. -/
theorem sendOldest_next {s t : State} (h : sendOldest s = .ok t) :
    s.qAlloc = true ∧ ((s.qCnt = 0 ∧ t = s) ∨
      (s.qCnt ≠ 0 ∧ s.qRd.toNat < s.params.maxCapacity ∧ t = sentState s)) := sendOldest_ok h

/-- Every next state of every instruction but CMD is listed in `Effect`. -/
theorem exec_next_direct {i : Instr} {s t : State} (hi : ∀ w, i ≠ .cmd w) (h : exec i s = .next t) :
    Effect s i t := by
  cases i with
  | stopStream =>
    obtain ⟨ha, rfl⟩ := queueClear_ok (ofPrimitive_next h)
    exact .stop ha
  | startStream =>
    simp only [exec, execStartStream] at h
    split at h <;> rename_i hm
    · split at h <;> rename_i hc
      · obtain ⟨ha, rfl⟩ := queueClear_ok hc
        cases h
        exact .start hm ha
      · cases h
    · split at h <;> rename_i hc
      · obtain ⟨ha, rfl⟩ := queueClear_ok (ofPrimitive_next h)
        exact .startClears hm hc ha
      · cases h
        exact .startAgain hm (by simpa using hc)
  | setTimerPeriod v =>
    have h : (Sys2Proof.Machine.setTimerPeriod v s).2 = t := Host.Outcome.next.inj h
    rcases setTimerPeriod_cases v s with ⟨ha, hs⟩ | ⟨ha, hs⟩ <;> rw [hs] at h <;> subst h
    · exact .setPeriod v ha
    · exact .setPeriodRejected v ha
  | getTimerPeriod => cases h; exact .getPeriod
  | setRange v =>
    simp only [exec, execSetRange] at h
    split at h <;> rename_i hp
    · have h : (Sys2Proof.Machine.setRange v s).2 = t := Host.Outcome.next.inj h
      rcases setRange_cases v s with ⟨ha, hs⟩ | ⟨ha, hs⟩ <;> rw [hs] at h <;> subst h
      · exact .setRange v hp ha
      · exact .setRangeRejected v hp ha
    · cases h; exact .setRangeAbsent v (by simpa using hp)
  | getRange =>
    simp only [exec, execGetRange] at h
    split at h <;> rename_i hp <;> cases h
    · exact .getRange hp
    · exact .getRangeAbsent (by simpa using hp)
  | getSample =>
    obtain ⟨ha, ⟨hc, rfl⟩ | ⟨hc, hi, rfl⟩⟩ := sendOldest_next (ofPrimitive_next h)
    · exact .getSampleEmpty ha hc
    · exact .getSample ha hc hi
  | getMaxTimerPeriod => cases h; exact .getMax
  | getMinTimerPeriod => cases h; exact .getMin
  | getBadSampleCount =>
    simp only [exec, execGetBadSampleCount] at h
    split at h <;> rename_i hp <;> cases h
    · exact .getBad hp
    · exact .getBadAbsent (by simpa using hp)
  | cmd w => exact absurd rfl (hi w)
  | tick v bad =>
    cases hm : s.mode with
    | stopped =>
      have hm' : (takeInterrupt s).mode = .stopped := hm
      simp only [exec, execTick, hm'] at h
      cases h
      exact .tickStopped v bad hm
    | streaming =>
      simp only [exec, execTick_streaming v bad s hm] at h
      have h := ofPrimitive_next h
      cases hp : queuePush v (tickStart bad s) with
      | error f => rw [hp] at h; cases h
      | ok u =>
        rw [hp] at h
        have h : returnFromInterrupt u = t := Except.ok.inj h
        subst h
        obtain ⟨ha, ⟨hf, rfl⟩ | ⟨hf, hi, rfl⟩⟩ := queuePush_ok hp
        · exact .tickDropped v bad hm ha ((isFull_iff _).1 hf)
        · exact .tickStored v bad hm ha ((isFull_eq_false_iff _).1 hf) hi
  | drain =>
    simp only [exec, execDrain] at h
    split at h <;> rename_i hm
    · cases h; exact .drainStopped hm
    · obtain ⟨ha, ⟨hc, rfl⟩ | ⟨hc, hi, rfl⟩⟩ := sendOldest_next (ofPrimitive_next h)
      · exact .drainEmpty hm ha hc
      · exact .drain hm ha hc hi
  | init c =>
    obtain ⟨hc, rfl⟩ := queueInit_ok (ofPrimitive_next h)
    exact .init c hc
  | dealloc => cases h; exact .dealloc
  | reset => cases h; exact .reset

/-- EVERYTHING AN INSTRUCTION CAN DO: every next state is listed in `Effect`. -/
theorem exec_next {i : Instr} {s t : State} (h : exec i s = .next t) : Effect s i t := by
  have run : ∀ (w : CmdWord) (j : Instr), decodeCommand s.params w = .ok j → (∀ w', j ≠ .cmd w') →
      exec j s = .next t → Effect s (.cmd w) t :=
    fun w j hd hj hn => .cmd w j t hd (exec_next_direct hj hn)
  have skip : ∀ (w : CmdWord) (e : DecodeError), decodeCommand s.params w = .error e →
      ignoreCommand s = .next t → Effect s (.cmd w) t := by
    intro w e hd hn; cases hn; exact .cmdIgnored w e hd
  by_cases hi : ∃ w, i = .cmd w
  · obtain ⟨w, rfl⟩ := hi
    simp only [exec, execCmd] at h
    split at h <;> rename_i hop
    · exact run w .stopStream (by simp [decodeCommand, hop]) nofun h
    · exact run w .startStream (by simp [decodeCommand, hop]) nofun h
    · exact run w (.setTimerPeriod (payloadOf w)) (by simp [decodeCommand, hop]) nofun h
    · exact run w .getTimerPeriod (by simp [decodeCommand, hop]) nofun h
    · split at h <;> rename_i hf
      · exact run w (.setRange (payloadOf w)) (by simp [decodeCommand, hop, hf]) nofun h
      · exact skip w (.unrecognised (opcodeOf w)) (by simp [decodeCommand, hop, hf]) h
    · split at h <;> rename_i hf
      · exact run w .getRange (by simp [decodeCommand, hop, hf]) nofun h
      · exact skip w (.unrecognised (opcodeOf w)) (by simp [decodeCommand, hop, hf]) h
    · exact run w .getSample (by simp [decodeCommand, hop]) nofun h
    · exact run w .getMaxTimerPeriod (by simp [decodeCommand, hop]) nofun h
    · exact run w .getMinTimerPeriod (by simp [decodeCommand, hop]) nofun h
    · split at h <;> rename_i hf
      · exact run w .getBadSampleCount (by simp [decodeCommand, hop, hf]) nofun h
      · exact skip w (.unrecognised (opcodeOf w)) (by simp [decodeCommand, hop, hf]) h
    · exact skip w (.unrecognised (opcodeOf w)) (by simp only [decodeCommand]) h
  · exact exec_next_direct (fun w hw => hi ⟨w, hw⟩) h

/-! ## Every fault -/

/-- Every fault an instruction other than CMD can raise (60_exceptions R184 to R186; log 7). -/
theorem exec_fault_direct {i : Instr} {s : State} {f : Fault} (hi : ∀ w, i ≠ .cmd w)
    (h : exec i s = .fault f) :
    (s.qAlloc = false ∧
        ((f = .queueNotAllocated .push ∧ s.mode = .streaming ∧ ∃ v bad, i = .tick v bad) ∨
          (f = .queueNotAllocated .size ∧ (i = .getSample ∨ (i = .drain ∧ s.mode = .streaming))) ∨
          (f = .queueNotAllocated .clear ∧ (i = .stopStream ∨
            (i = .startStream ∧ (s.mode = .stopped ∨ s.params.startClearsWhenStreaming = true)))))) ∨
      (∃ c, i = .init c ∧ s.params.maxCapacity < c.toNat ∧ f = .initCapacityTooLarge c) ∨
      ((∃ v bad, i = .tick v bad) ∧ s.qCnt < s.qCap ∧ s.params.maxCapacity ≤ writeIndex s ∧
        f = .noSuchIndex (writeIndex s)) ∨
      ((i = .getSample ∨ i = .drain) ∧ s.qCnt ≠ 0 ∧ s.params.maxCapacity ≤ s.qRd.toNat ∧
        f = .noSuchIndex s.qRd.toNat) := by
  have clear_fault : ∀ {u : State} {g : Fault}, queueClear u = .error g →
      u.qAlloc = false ∧ g = .queueNotAllocated .clear := by
    intro u g hg
    rcases Bool.eq_false_or_eq_true u.qAlloc with ha | ha
    · rw [queueClear_allocated u ha] at hg; cases hg
    · rw [queueClear_unallocated u ha] at hg; exact ⟨ha, (Except.error.inj hg).symm⟩
  cases i with
  | stopStream =>
    obtain ⟨ha, rfl⟩ := clear_fault (ofPrimitive_fault h)
    exact .inl ⟨ha, .inr (.inr ⟨rfl, .inl rfl⟩)⟩
  | startStream =>
    simp only [exec, execStartStream] at h
    split at h <;> rename_i hm
    · split at h <;> rename_i hc
      · cases h
      · obtain ⟨ha, rfl⟩ := clear_fault hc
        cases h
        exact .inl ⟨ha, .inr (.inr ⟨rfl, .inr ⟨rfl, .inl hm⟩⟩)⟩
    · split at h <;> rename_i hc
      · obtain ⟨ha, rfl⟩ := clear_fault (ofPrimitive_fault h)
        exact .inl ⟨ha, .inr (.inr ⟨rfl, .inr ⟨rfl, .inr hc⟩⟩)⟩
      · cases h
  | setTimerPeriod v => cases h
  | getTimerPeriod => cases h
  | setRange v => simp only [exec, execSetRange, ignoreCommand] at h; split at h <;> cases h
  | getRange => simp only [exec, execGetRange, ignoreCommand] at h; split at h <;> cases h
  | getSample =>
    rcases sendOldest_error (ofPrimitive_fault h) with ⟨ha, rfl⟩ | h3
    · exact .inl ⟨ha, .inr (.inl ⟨rfl, .inl rfl⟩)⟩
    · exact .inr (.inr (.inr ⟨.inl rfl, h3⟩))
  | getMaxTimerPeriod => cases h
  | getMinTimerPeriod => cases h
  | getBadSampleCount =>
    simp only [exec, execGetBadSampleCount, ignoreCommand] at h; split at h <;> cases h
  | cmd w => exact absurd rfl (hi w)
  | tick v bad =>
    cases hm : s.mode with
    | stopped =>
      have hm' : (takeInterrupt s).mode = .stopped := hm
      simp only [exec, execTick, hm'] at h
      cases h
    | streaming =>
      simp only [exec, execTick_streaming v bad s hm] at h
      have h := ofPrimitive_fault h
      cases hp : queuePush v (tickStart bad s) with
      | ok u => rw [hp] at h; cases h
      | error g =>
        rw [hp] at h
        have h : g = f := Except.error.inj h
        subst h
        rcases queuePush_error hp with ⟨ha, rfl⟩ | ⟨hf, hi, rfl⟩
        · exact .inl ⟨ha, .inl ⟨rfl, rfl, v, bad, rfl⟩⟩
        · exact .inr (.inr (.inl ⟨⟨v, bad, rfl⟩, (isFull_eq_false_iff _).1 hf, hi, rfl⟩))
  | drain =>
    simp only [exec, execDrain] at h
    split at h <;> rename_i hm
    · cases h
    · rcases sendOldest_error (ofPrimitive_fault h) with ⟨ha, rfl⟩ | h3
      · exact .inl ⟨ha, .inr (.inl ⟨rfl, .inr ⟨rfl, hm⟩⟩)⟩
      · exact .inr (.inr (.inr ⟨.inr rfl, h3⟩))
  | init c =>
    have h := ofPrimitive_fault h
    unfold queueInit at h
    split at h <;> rename_i hc
    · exact .inr (.inl ⟨c, rfl, hc, (Except.error.inj h).symm⟩)
    · cases h
  | dealloc => cases h
  | reset => cases h

/-- A meaning never refuses. -/
theorem exec_not_refused (i : Instr) (s : State) (r : Refusal) : exec i s ≠ .refused r := by
  have prim : ∀ x : Except Fault State, ofPrimitive x ≠ .refused r := by
    intro x; cases x <;> (intro h; cases h)
  have direct : ∀ j : Instr, (∀ w, j ≠ .cmd w) → exec j s ≠ .refused r := by
    intro j hj h
    cases j with
    | stopStream => exact prim _ h
    | startStream =>
      simp only [exec, execStartStream] at h
      split at h
      · split at h <;> cases h
      · split at h
        · exact prim _ h
        · cases h
    | setTimerPeriod v => cases h
    | getTimerPeriod => cases h
    | setRange v => simp only [exec, execSetRange, ignoreCommand] at h; split at h <;> cases h
    | getRange => simp only [exec, execGetRange, ignoreCommand] at h; split at h <;> cases h
    | getSample => exact prim _ h
    | getMaxTimerPeriod => cases h
    | getMinTimerPeriod => cases h
    | getBadSampleCount =>
      simp only [exec, execGetBadSampleCount, ignoreCommand] at h; split at h <;> cases h
    | cmd w => exact hj w rfl
    | tick v bad =>
      simp only [exec, execTick] at h
      split at h
      · cases h
      · split at h <;> cases h
    | drain =>
      simp only [exec, execDrain] at h
      split at h
      · cases h
      · exact prim _ h
    | init c => exact prim _ h
    | dealloc => cases h
    | reset => cases h
  by_cases hi : ∃ w, i = .cmd w
  · obtain ⟨w, rfl⟩ := hi
    intro h
    have h : execCmd w s = .refused r := h
    have skip : ignoreCommand s ≠ .refused r := nofun
    simp only [execCmd] at h
    split at h
    · exact direct .stopStream nofun h
    · exact direct .startStream nofun h
    · exact direct (.setTimerPeriod _) nofun h
    · exact direct .getTimerPeriod nofun h
    · split at h
      · exact direct (.setRange _) nofun h
      · exact skip h
    · split at h
      · exact direct .getRange nofun h
      · exact skip h
    · exact direct .getSample nofun h
    · exact direct .getMaxTimerPeriod nofun h
    · exact direct .getMinTimerPeriod nofun h
    · split at h
      · exact direct .getBadSampleCount nofun h
      · exact skip h
    · exact skip h
  · exact direct i (fun w hw => hi ⟨w, hw⟩)

end Sys2Proof.Machine
end

