-- ==== Sys2Proof/Laws/PerInstr.lean ====
section
/-! SUPPORT. Statements made once per constructor of `Instr`. `TableRow`: the encoder puts every
instruction on its own row of spec/opcode_table.json, whatever its operands. -/

namespace Sys2Proof.Laws.TableRow

/-- A row of format `CMD40`: mask `0xFF00000000`, match `opcode << 32` (30_encoding R76). -/
def OnCommandRow (opcode : U8) (i : Instr) : Prop :=
  ∃ w, encode i = .cmd40 w ∧ w &&& 0xFF00000000 = opcode.zeroExtend 40 <<< 32

/-- A row of format `EVT5`: a one-hot strobe word, `rst` not asserted (30_encoding R71). -/
def OnEventRow (k : Strobe) (i : Instr) : Prop :=
  ∃ p, encode i = .ports p ∧ p.rst = false ∧ p.ev = k.oneHot

/-- The row of format `RST1` (30_encoding R71). -/
def OnResetRow (i : Instr) : Prop := ∃ p, encode i = .ports p ∧ p.rst = true

/-- `i` is encoded on its row of the opcode table. -/
def Statement (i : Instr) : Prop :=
  match i with
  | .stopStream => OnCommandRow 0x00 i
  | .startStream => OnCommandRow 0x01 i
  | .setTimerPeriod _ => OnCommandRow 0x02 i
  | .getTimerPeriod => OnCommandRow 0x03 i
  | .setRange _ => OnCommandRow 0x04 i
  | .getRange => OnCommandRow 0x05 i
  | .getSample => OnCommandRow 0x06 i
  | .getMaxTimerPeriod => OnCommandRow 0x07 i
  | .getMinTimerPeriod => OnCommandRow 0x08 i
  | .getBadSampleCount => OnCommandRow 0x09 i
  | .cmd _ => OnEventRow .cmdValid i
  | .tick _ _ => OnEventRow .tickIrq i
  | .drain => OnEventRow .drainReq i
  | .init _ => OnEventRow .initStb i
  | .dealloc => OnEventRow .deallocStb i
  | .reset => OnResetRow i

/-- The mask of the command rows keeps the opcode and nothing of the payload. -/
theorem masked_cmdWord (op : U8) (v : U32) :
    cmdWord op v &&& 0xFF00000000 = op.zeroExtend 40 <<< 32 := by
  apply BitVec.eq_of_getLsbD_eq
  intro i hi
  show ((op ++ v : BitVec (8 + 32)) &&& (0xFF00000000 : BitVec (8 + 32))).getLsbD i = _
  rw [BitVec.getLsbD_and, BitVec.getLsbD_append]
  interval_cases i <;> simp

theorem stopStream : Statement .stopStream := ⟨_, rfl, by decide⟩
theorem startStream : Statement .startStream := ⟨_, rfl, by decide⟩
theorem setTimerPeriod (payload : U32) : Statement (.setTimerPeriod payload) :=
  ⟨_, rfl, masked_cmdWord _ payload⟩
theorem getTimerPeriod : Statement .getTimerPeriod := ⟨_, rfl, by decide⟩
theorem setRange (payload : U32) : Statement (.setRange payload) := ⟨_, rfl, masked_cmdWord _ payload⟩
theorem getRange : Statement .getRange := ⟨_, rfl, by decide⟩
theorem getSample : Statement .getSample := ⟨_, rfl, by decide⟩
theorem getMaxTimerPeriod : Statement .getMaxTimerPeriod := ⟨_, rfl, by decide⟩
theorem getMinTimerPeriod : Statement .getMinTimerPeriod := ⟨_, rfl, by decide⟩
theorem getBadSampleCount : Statement .getBadSampleCount := ⟨_, rfl, by decide⟩
theorem cmd (word : CmdWord) : Statement (.cmd word) := ⟨_, rfl, rfl, rfl⟩
theorem tick (sample : Sample) (bad : Bool) : Statement (.tick sample bad) := ⟨_, rfl, rfl, rfl⟩
theorem drain : Statement .drain := ⟨_, rfl, rfl, by decide⟩
theorem init (capacity : U16) : Statement (.init capacity) := ⟨_, rfl, rfl, rfl⟩
theorem dealloc : Statement .dealloc := ⟨_, rfl, rfl, by decide⟩
theorem reset : Statement .reset := ⟨_, rfl, rfl⟩

end Sys2Proof.Laws.TableRow
end

