-- ==== Sys2Proof/Machine/Text.lean ====
section
/-! DEFINITION. The text syntax of commands and events and the two pseudo-instructions of the test programs
(30_encoding R80 to R82). The block itself never sees text. -/

namespace Sys2Proof.Machine

/-- One hexadecimal digit, in capitals as the spec writes them. -/
def hexDigit (n : Nat) : Char :=
  if n < 10 then Char.ofNat (48 + n) else Char.ofNat (55 + n)

/-- The last `d` hexadecimal digits of `n`. -/
def hexDigits (d n : Nat) : List Char :=
  match d with
  | 0 => []
  | d + 1 => hexDigits d (n / 16) ++ [hexDigit (n % 16)]

/-- A sample value as a signed decimal, two's complement (00_scope R6; 93 G1). -/
def textS16 (v : S16) : String := toString v.toInt

/-- The text of an instruction (R80, R81). A payload is written in decimal; the word of a CMD event as `0x`
and ten hexadecimal digits. -/
def textOf (i : Instr) : String :=
  match i with
  | .stopStream => "STOP_STREAM"
  | .startStream => "START_STREAM"
  | .setTimerPeriod payload => "SET_TIMER_PERIOD " ++ toString payload.toNat
  | .getTimerPeriod => "GET_TIMER_PERIOD"
  | .setRange payload => "SET_RANGE " ++ toString payload.toNat
  | .getRange => "GET_RANGE"
  | .getSample => "GET_SAMPLE"
  | .getMaxTimerPeriod => "GET_MAX_TIMER_PERIOD"
  | .getMinTimerPeriod => "GET_MIN_TIMER_PERIOD"
  | .getBadSampleCount => "GET_BAD_SAMPLE_COUNT"
  | .cmd word => "CMD 0x" ++ String.ofList (hexDigits 10 word.toNat)
  | .tick v bad =>
    "TICK " ++ textS16 v.x ++ " " ++ textS16 v.y ++ " " ++ textS16 v.z ++ (if bad then " BAD" else "")
  | .drain => "DRAIN"
  | .init capacity => "INIT " ++ toString capacity.toNat
  | .dealloc => "DEALLOC"
  | .reset => "RESET"

/-- `TICK_SEQ n b` (R82). -/
def tickSeq (n : Nat) (b : Int) : List Instr :=
  (List.range n).map (fun i =>
    .tick ⟨BitVec.ofInt 16 (b + 3 * i), BitVec.ofInt 16 (b + 3 * i + 1), BitVec.ofInt 16 (b + 3 * i + 2)⟩
      false)

/-- `DRAIN_N n` (R82). -/
def drainN (n : Nat) : List Instr := List.replicate n .drain

end Sys2Proof.Machine
end

