-- ==== Sys2Proof/Tests/Slice0.lean ====
section
/-! SUPPORT. Tests: the check of ill-formed instructions, decoding of words written out from 30_encoding, one
step of each instruction on vectors of spec/95_test_vectors.md (named beside each), and for every statement
with hypotheses a concrete state and operands that meet them. -/

namespace Sys2Proof.Tests

open Sys2Proof.Machine

/-! ## Small states -/

/-- `Q(alloc, cap, rd, cnt)` and `mode`, everything else as after reset (95_test_vectors, state notation). -/
def q (alloc : Bool) (cap rd cnt : U16) (m : Mode) : State :=
  { State.reset with qAlloc := alloc, qCap := cap, qRd := rd, qCnt := cnt, mode := m }

/-- `M[i] = (x, y, z)`. -/
def holds (i : Nat) (x y z : S16) (s : State) : State := writeSample s i ⟨x, y, z⟩

/-- The registers `(rd, cnt)`. -/
def pointers (s : State) : U16 × U16 := (s.qRd, s.qCnt)

/-- The step that an opcode-table word makes, when it has a next state. -/
def stepOn (nbits w : Nat) (s : State) : Option State := nextOf (step (s.withFetchWord nbits w))

/-- The next state of an instruction. -/
def after (i : Instr) (s : State) : Option State := nextOf (exec i s)

/-- A queue of capacity 4 that holds two samples, streaming. -/
def holding : State := holds 1 7 8 9 (holds 0 4 5 6 (q true 4 0 2 .streaming))

/-- An empty allocated queue, streaming. -/
def flowing : State := q true 3 0 0 .streaming

/-- A full queue, streaming. -/
def fullQueue : State := holds 2 7 8 9 (holds 1 4 5 6 (holds 0 1 2 3 (q true 3 0 3 .streaming)))

/-- Streaming with the queue gone. -/
def gone : State := q false 0 0 0 .streaming

/-- The vectors' configuration without the two optional features. -/
def bare : Params := { Params.vectors with hasRange := false, hasBadSampleCount := false }

/-- The vectors' configuration with the other reading of START_STREAM. -/
def clearing : Params := { Params.vectors with startClearsWhenStreaming := true }

/-! ## Ill-formed instructions (30_encoding R78) -/

theorem test_wellFormed_refuses_setRange : Instr.wellFormed bare (.setRange 8) = false := by decide
theorem test_wellFormed_refuses_getRange : Instr.wellFormed bare .getRange = false := by decide
theorem test_wellFormed_refuses_getBadSampleCount :
    Instr.wellFormed bare .getBadSampleCount = false := by decide

/-! ## Decoding of words written out from 30_encoding R70, R71, R76 -/

theorem test_decode_stopStream : decodeTableWord 40 0x0000000000 = some .stopStream := by decide
theorem test_decode_startStream : decodeTableWord 40 0x0100000000 = some .startStream := by decide
theorem test_decode_setTimerPeriod :
    decodeTableWord 40 0x02000F4240 = some (.setTimerPeriod 1000000) := by decide
theorem test_decode_getTimerPeriod : decodeTableWord 40 0x0300000000 = some .getTimerPeriod := by decide
theorem test_decode_setRange : decodeTableWord 40 0x0400000108 = some (.setRange 0x108) := by decide
theorem test_decode_getRange : decodeTableWord 40 0x0500000000 = some .getRange := by decide
theorem test_decode_getSample : decodeTableWord 40 0x06DEADBEEF = some .getSample := by decide
theorem test_decode_getMaxTimerPeriod :
    decodeTableWord 40 0x0700000000 = some .getMaxTimerPeriod := by decide
theorem test_decode_getMinTimerPeriod :
    decodeTableWord 40 0x0800000000 = some .getMinTimerPeriod := by decide
theorem test_decode_getBadSampleCount :
    decodeTableWord 40 0x0900000000 = some .getBadSampleCount := by decide
theorem test_decode_unrecognised_low : decodeTableWord 40 0x0A00000000 = none := by decide
theorem test_decode_unrecognised_high : decodeTableWord 40 0xFF12345678 = none := by decide
theorem test_decode_absent_feature :
    decode bare (.cmd40 0x0900000000) = .error (.unrecognised 0x09) := by decide
theorem test_decode_cmd : decodeTableWord 5 0b00001 = some (.cmd 0) := by decide
theorem test_decode_tick :
    decode Params.vectors (.ports
      { Ports.quiet with ev := 0b00010, srcX := 0x0064, srcY := 0xFF38, srcZ := 0x012C, srcBad := true }) =
      .ok (.tick ⟨100, -200, 300⟩ true) := by decide
theorem test_decode_drain : decodeTableWord 8 0b00100 = some .drain := by decide
theorem test_decode_init :
    decode Params.vectors (.ports { Ports.quiet with ev := 0b01000, initCapacity := 0x0201 }) =
      .ok (.init 513) := by decide
theorem test_decode_dealloc : decodeTableWord 8 0b10000 = some .dealloc := by decide
theorem test_decode_reset : decodeTableWord 1 1 = some .reset := by decide
theorem test_decode_no_event : decodeTableWord 5 0 = none := by decide
theorem test_decode_two_events : decodeTableWord 5 0b00011 = none := by decide

/-! ## One step of each command (95_test_vectors 2.3) -/

/-- VC2. -/
theorem test_stopStream :
    (stepOn 40 0x0000000000 (q true 50 7 50 .streaming)).map (fun s => (s.mode, pointers s, s.qCap)) =
      some (.stopped, (0, 0), 50) := by decide
/-- VC7. -/
theorem test_stopStream_unallocated :
    faultOf (exec .stopStream State.reset) = some (.queueNotAllocated .clear) := by decide
/-- VC4. -/
theorem test_startStream_again :
    after .startStream (q true 8 2 3 .streaming) = some (q true 8 2 3 .streaming) := by decide
/-- VC5. -/
theorem test_startStream_clears :
    (after .startStream { q true 8 2 3 .streaming with params := clearing }).map pointers =
      some (0, 0) := by decide
/-- VC8, VD2. -/
theorem test_setTimerPeriod :
    (stepOn 40 0x02000003E8 State.reset).map (fun s => (s.timerPeriod, s.log)) =
      some (1000, [.tmrInit 5000, .tmrSetPeriod 1000]) := by decide
/-- VC10, VD4. -/
theorem test_setTimerPeriod_rejected :
    (stepOn 40 0x02000F4241 State.reset).map (fun s => (s.timerPeriod, s.log)) =
      some (5000, [.tmrInit 5000]) := by decide
/-- VC11. -/
theorem test_getTimerPeriod :
    (stepOn 40 0x0300000000 State.reset).map State.log =
      some [.tmrInit 5000, .respValue 5000] := by decide
/-- VC12. -/
theorem test_setRange : (stepOn 40 0x0400000008 State.reset).map State.range = some 8 := by decide
/-- VC13, VD14: all 32 bits are compared. -/
theorem test_setRange_rejected :
    (after (.setRange 0x110) { State.reset with range := 16 }).map State.range = some 16 := by decide
/-- P2 step 12. -/
theorem test_getRange :
    (stepOn 40 0x0500000000 State.reset).map State.log = some [.tmrInit 5000, .respValue 2] := by decide
/-- VC15. -/
theorem test_getSample :
    (stepOn 40 0x0600000000 holding).map (fun s => (pointers s, s.log)) =
      some ((1, 1), [.tmrInit 5000, .respSample ⟨4, 5, 6⟩]) := by decide
/-- VQ9: the read index wraps. -/
theorem test_getSample_wraps :
    (after .getSample (holds 2 7 8 9 (holds 0 13 14 15 (q true 3 2 2 .stopped)))).map
        (fun s => (pointers s, s.log)) =
      some ((0, 1), [.tmrInit 5000, .respSample ⟨7, 8, 9⟩]) := by decide
/-- VC17. -/
theorem test_getMaxTimerPeriod :
    (stepOn 40 0x0700000000 State.reset).map State.log =
      some [.tmrInit 5000, .respValue 1000000] := by decide
/-- VC18. -/
theorem test_getMinTimerPeriod :
    (stepOn 40 0x0800000000 State.reset).map State.log =
      some [.tmrInit 5000, .respValue 1000] := by decide
/-- VC19. -/
theorem test_getBadSampleCount :
    (stepOn 40 0x0900000000 { State.reset with badSampleCount := 3 }).map
        (fun s => (s.badSampleCount, s.log)) =
      some (3, [.tmrInit 5000, .respValue 3]) := by decide
/-- VC20. -/
theorem test_cmd_unrecognised : after (.cmd 0xFF12345678) holding = some holding := by decide
/-- VC22. -/
theorem test_cmd_absent_feature :
    after (.cmd 0x0400000008) { State.reset with params := bare } =
      some { State.reset with params := bare } := by decide

/-! ## One step of each event (95_test_vectors 2.1, 2.4) -/

/-- VQ7: a write index that wraps; VE1 for the rest. -/
theorem test_tick :
    (after (.tick ⟨13, 14, 15⟩ true) (holds 2 7 8 9 (q true 3 2 1 .streaming))).map
        (fun s => (readSample s 0, pointers s, s.badSampleCount, s.log)) =
      some (⟨13, 14, 15⟩, (2, 2), 1, [.tmrInit 5000, .srcRead]) := by decide
/-- VQ23: a sum that needs 17 bits. -/
theorem test_tick_17_bits :
    (after (.tick ⟨1, 2, 3⟩ false)
        { q true 65535 65534 2 .streaming with params := { Params.vectors with maxCapacity := 65535 } }).map
        (fun s => (readSample s 1, pointers s)) =
      some (⟨1, 2, 3⟩, (65534, 3)) := by decide
/-- VE7. -/
theorem test_drain :
    (stepOn 8 0b00100 holding).map (fun s => (pointers s, s.log)) =
      some ((1, 1), [.tmrInit 5000, .respSample ⟨4, 5, 6⟩]) := by decide
/-- VE9, VE10. -/
theorem test_drain_unallocated :
    after .drain State.reset = some State.reset ∧
      faultOf (exec .drain gone) = some (.queueNotAllocated .size) := by decide
/-- VE11. -/
theorem test_init :
    (after (.init 50) State.reset).map (fun s => (s.qAlloc, s.qCap, pointers s)) =
      some (true, 50, (0, 0)) := by decide
/-- VE12. -/
theorem test_init_too_large :
    faultOf (exec (.init 513) State.reset) = some (.initCapacityTooLarge 513) := by decide
/-- VE13. -/
theorem test_dealloc :
    (stepOn 8 0b10000 (q true 50 0 0 .stopped)).map (fun s => (s.qAlloc, s.qCap)) =
      some (false, 0) := by decide
/-- VE14. -/
theorem test_reset :
    (stepOn 1 1 { q true 8 3 5 .streaming with timerPeriod := 2500, range := 8, badSampleCount := 7 }).map
        (fun s => ((s.qAlloc, s.mode), (s.timerPeriod, s.range, s.badSampleCount), s.log)) =
      some ((false, .stopped), (5000, 2, 0), [.tmrInit 5000]) := by decide
/-- VD18, VD19, VD20. -/
theorem test_bad_count_at_the_top :
    badCountAfter Params.vectors true 0xFFFFFFFF = 0xFFFFFFFF ∧
      badCountAfter { Params.vectors with badCountPolicy := .wrap } true 0xFFFFFFFF = 0 ∧
      badCountAfter { Params.vectors with badCountWidth := 8 } true 255 = 255 ∧
      badCountAfter { Params.vectors with badCountWidth := 8, badCountPolicy := .wrap } true 255 = 0 := by
  decide

/-! ## Outputs and text (95_test_vectors 2.5; 30_encoding R80 to R82) -/

/-- VX1, VX4, VX5, VX7, VX8. -/
theorem test_output_words :
    (OutTxn.respValue 1000).respWord = some 0x00000000003E8 ∧
      (OutTxn.respSample ⟨100, -200, 300⟩).respWord = some 0x1012CFF380064 ∧
      (OutTxn.respSample ⟨-32768, 32767, 0⟩).respWord = some 0x100007FFF8000 ∧
      (OutTxn.tmrInit 5000).tmrWord = some 0x000001388 ∧
      (OutTxn.tmrSetPeriod 1000).tmrWord = some 0x1000003E8 := by decide
theorem test_text_cmd : textOf (.cmd 0x0A00000000) = "CMD 0x0A00000000" := by decide
theorem test_text_tick : textOf (.tick ⟨100, -200, 300⟩ true) = "TICK 100 -200 300 BAD" := by decide
/-- P5 steps 4 to 13. -/
theorem test_tickSeq :
    (tickSeq 10 (-15))[5]? = some (.tick ⟨0, 1, 2⟩ false) ∧ (drainN 3).length = 3 := by decide

/-! ## Hypotheses that are met: one witness for each statement that has any, at the boundary of each clause -/

/-- A snapshot with the strobes `ev`. -/
def strobes (ev : StrobeWord) : Ports := { Ports.quiet with ev := ev, cmd := 0x0600000000, srcX := 7 }

/-- A state with one snapshot to serve. -/
def offered (p : Ports) : State := { holding with inbox := [p] }

theorem witness_queueInv_holding : holding.QueueInv := ⟨by decide, by decide, by decide, by decide⟩
theorem witness_queueInv_flowing : flowing.QueueInv := ⟨by decide, by decide, by decide, by decide⟩
theorem witness_queueInv_fullQueue : fullQueue.QueueInv := ⟨by decide, by decide, by decide, by decide⟩
/-- Capacity 0: allocated, and never room. -/
theorem witness_queueInv_capacity_zero : (q true 0 0 0 .streaming).QueueInv :=
  ⟨by decide, by decide, by decide, by decide⟩
/-- The largest capacity, its last index. -/
theorem witness_queueInv_last_index : (q true 512 511 512 .streaming).QueueInv :=
  ⟨by decide, by decide, by decide, by decide⟩

theorem witness_inv_holding : (offered (strobes 0b00100)).Inv where
  legal := by decide
  queue := ⟨by decide, by decide, by decide, by decide⟩
  device := ⟨by decide, by decide, by decide, by decide⟩
  memory := ⟨by intro ch; cases ch <;> decide, by intro ch; cases ch <;> decide,
    by intro ch; cases ch <;> decide⟩
  stopped_empty := by decide
  unmasked := by decide
  foreground := by decide
  pending := by decide

theorem witness_DecodeReadsBackEveryInstruction :
    Instr.wellFormed Params.vectors (.setRange 0xFFFFFFFF) = true ∧
      Instr.wellFormed Params.vectors .getRange = true ∧
      Instr.wellFormed Params.vectors .getBadSampleCount = true ∧
      Instr.wellFormed bare (.tick ⟨-32768, 32767, 0⟩ true) = true := by decide
theorem witness_DecodedInstructionIsWellFormed :
    decode Params.vectors (.cmd40 0x06DEADBEEF) = .ok .getSample ∧
      decode Params.vectors (.cmd40 0x04FFFFFFFF) = .ok (.setRange 0xFFFFFFFF) ∧
      decode bare (.ports (strobes 0b00100)) = .ok .drain := by decide
theorem witness_EveryWordDecodesByTheOpcodeMap :
    Params.vectors.hasRange = true ∧ Params.vectors.hasBadSampleCount = true ∧ bare.hasRange = false ∧
      bare.hasBadSampleCount = false ∧ (0x09 : U8) < 0x0A ∧ (0x09 : U8) < 0xFF ∧
      (strobes 0b00001).rst = false ∧ (strobes 0b00001).ev = 0b00001 ∧ (strobes 0b00010).ev = 0b00010 ∧
      (strobes 0b00100).ev = 0b00100 ∧ (strobes 0b01000).ev = 0b01000 ∧
      (strobes 0b10000).ev = 0b10000 := by decide
theorem witness_PayloadIgnoredOutsideSetCommands :
    ((0x01 : U8) ≠ 0x02 ∧ (0x01 : U8) ≠ 0x04) ∧ ((0x03 : U8) ≠ 0x02 ∧ (0x03 : U8) ≠ 0x04) ∧
      ((0x05 : U8) ≠ 0x02 ∧ (0x05 : U8) ≠ 0x04) := by decide
theorem witness_StepRunsTheDecodedInstruction :
    (offered (strobes 0b00001)).params.Legal ∧ (offered (strobes 0b00001)).irqMask = false ∧
      (offered (strobes 0b00001)).irqPending = false ∧
      (offered (strobes 0b00001)).inbox = [strobes 0b00001] ∧
      decodePorts (strobes 0b00001) = .ok (.cmd 0x0600000000) ∧
      decodeCommand (offered (strobes 0b00001)).params 0x0600000000 = .ok .getSample ∧
      decodePorts { strobes 0b00001 with cmd := 0x0A00000000 } = .ok (.cmd 0x0A00000000) ∧
      decodeCommand (offered (strobes 0b00001)).params 0x0A00000000 = .error (.unrecognised 0x0A) ∧
      decodePorts (strobes 0b00010) = .ok (.tick ⟨7, 0, 0⟩ false) := by decide
theorem witness_ResetInputOverridesEveryStrobe :
    State.reset.params.Legal ∧
      (offered { strobes 0b11111 with rst := true }).inbox = [{ strobes 0b11111 with rst := true }] := by
  decide
theorem witness_SimultaneousStrobesServedOneByOne :
    (offered (strobes 0b00011)).params.Legal ∧ (strobes 0b00011).rst = false ∧
      (serviceable (offered (strobes 0b00011)) (strobes 0b00011)).length = 2 ∧
      (serviceable (offered (strobes 0b11111)) (strobes 0b11111)).length = 5 ∧
      (serviceable { offered (strobes 0b00101) with irqPending := true } (strobes 0b00101)).length = 3 := by
  decide
/-- A tick is held pending and its strobe has gone. -/
def held : State := { offered (strobes 0) with irqPending := true }

/-- A tick is held pending and another is strobed. -/
def merged : State := { offered (strobes 0b00010) with irqPending := true }

/-- A critical section is open. -/
def masked : State := { offered (strobes 0b00010) with irqMask := true }

theorem witness_LoneServableStrobeIsServed :
    (held.params.Legal ∧ held.inbox = [strobes 0] ∧ (strobes 0).rst = false ∧ held.irqPending = true ∧
        held.irqMask = false ∧ (strobes 0).ev = 0b00000 ∧ serviceable held (strobes 0) = [.tickIrq]) ∧
      (merged.inbox = [strobes 0b00010] ∧ (strobes 0b00010).rst = false ∧ merged.irqPending = true ∧
        merged.irqMask = false ∧ serviceable merged (strobes 0b00010) = [.tickIrq]) ∧
      (masked.inbox = [strobes 0b00010] ∧ serviceable masked (strobes 0b00010) = [] ∧
        serviceable masked (strobes 0b00110) = [.drainReq]) := by decide
/-- A step serves a held tick whose strobe has gone (60_exceptions R188). -/
theorem test_held_tick_is_served :
    (nextOf (step held)).map
        (fun s => (s.irqPending, s.inbox, pointers s, s.log)) =
      some (false, [], (0, 3), [.tmrInit 5000, .srcRead]) := by decide
theorem witness_IdleWithoutAnEvent :
    State.reset.params.Legal ∧ State.reset.inbox = [] ∧ (offered (strobes 0)).inbox = [strobes 0] ∧
      (strobes 0).rst = false ∧ (strobes 0).ev = 0 ∧ (offered (strobes 0)).irqPending = false := by decide
theorem witness_IllegalConfigurationRefused :
    ¬ { Params.vectors with maxCapacity := 0 }.Legal ∧ ¬ { Params.vectors with badCountWidth := 33 }.Legal ∧
      ¬ { Params.vectors with defaultRange := 3 }.Legal := by decide
theorem witness_StopStreamStopsAndClears :
    holding.qAlloc = true ∧ State.reset.qAlloc = false := by decide
theorem witness_StartStreamClearsOnTransition :
    ((q true 3 1 0 .stopped).mode = .stopped ∧ (q true 3 1 0 .stopped).qAlloc = true) ∧
      (State.reset.mode = .stopped ∧ State.reset.qAlloc = false) ∧
      (holding.mode = .streaming ∧ holding.params.startClearsWhenStreaming = false) ∧
      ({ holding with params := clearing }.mode = .streaming ∧
        { holding with params := clearing }.qAlloc = true ∧
        { holding with params := clearing }.params.startClearsWhenStreaming = true) ∧
      (gone.mode = .streaming ∧ gone.qAlloc = false) := by decide
theorem witness_SetTimerPeriodValidates :
    (State.reset.params.minTimerPeriod ≤ 1000 ∧ 1000 ≤ State.reset.params.maxTimerPeriod) ∧
      (State.reset.params.minTimerPeriod ≤ 1000000 ∧ 1000000 ≤ State.reset.params.maxTimerPeriod) ∧
      ¬ (State.reset.params.minTimerPeriod ≤ 999 ∧ 999 ≤ State.reset.params.maxTimerPeriod) ∧
      ¬ (State.reset.params.minTimerPeriod ≤ 1000001 ∧ 1000001 ≤ State.reset.params.maxTimerPeriod) := by
  decide
theorem witness_SetRangeValidates :
    State.reset.params.hasRange = true ∧ bare.hasRange = false ∧
      (((2 : U32) = 2 ∨ (2 : U32) = 4 ∨ (2 : U32) = 8 ∨ (2 : U32) = 16) ∧
        ((16 : U32) = 2 ∨ (16 : U32) = 4 ∨ (16 : U32) = 8 ∨ (16 : U32) = 16)) ∧
      ¬ ((1 : U32) = 2 ∨ (1 : U32) = 4 ∨ (1 : U32) = 8 ∨ (1 : U32) = 16) ∧
      ¬ ((0x108 : U32) = 2 ∨ (0x108 : U32) = 4 ∨ (0x108 : U32) = 8 ∨ (0x108 : U32) = 16) := by decide
theorem witness_RangeAndCountGettersRespond :
    State.reset.params.hasRange = true ∧ bare.hasRange = false ∧
      State.reset.params.hasBadSampleCount = true ∧ bare.hasBadSampleCount = false := by decide
theorem witness_GetSamplePopsTheOldest :
    (holding.qAlloc = true ∧ holding.qCnt ≠ 0 ∧ holding.qCap ≠ 0 ∧
        holding.qRd.toNat < holding.params.maxCapacity) ∧
      ((q true 512 511 1 .stopped).qAlloc = true ∧ (q true 512 511 1 .stopped).qCnt ≠ 0 ∧
        (q true 512 511 1 .stopped).qCap ≠ 0 ∧
        (q true 512 511 1 .stopped).qRd.toNat < (q true 512 511 1 .stopped).params.maxCapacity) ∧
      (flowing.qAlloc = true ∧ flowing.qCnt = 0) ∧ State.reset.qAlloc = false := by decide
theorem witness_UnrecognisedCommandIgnored :
    (0x09 : U8) < 0x0A ∧ (0x09 : U8) < 0xFF ∧ bare.hasRange = false ∧
      bare.hasBadSampleCount = false := by decide
theorem witness_CmdRunsItsDecodedCommand :
    decodeCommand Params.vectors 0x0000000000 = .ok .stopStream ∧
      decodeCommand Params.vectors 0x0900000000 = .ok .getBadSampleCount ∧
      decodeCommand Params.vectors 0x0A00000000 = .error (.unrecognised 0x0A) := by decide
theorem witness_CmdCompletesOnceAllocated : holding.qAlloc = true ∧ holding.QueueInv :=
  ⟨by decide, witness_queueInv_holding⟩
theorem witness_TickInStoppedDoesNothing : State.reset.mode = .stopped := by decide
theorem witness_TickStoresTheSample :
    (flowing.mode = .streaming ∧ flowing.qAlloc = true ∧ flowing.qCnt < flowing.qCap ∧
        writeIndex flowing < flowing.params.maxCapacity) ∧
      ((q true 512 511 511 .streaming).qCnt < (q true 512 511 511 .streaming).qCap ∧
        writeIndex (q true 512 511 511 .streaming) = 510) ∧
      writeIndex (q true 512 0 511 .streaming) = 511 := by decide
theorem witness_TickIntoFullQueueDropsTheSample :
    (fullQueue.mode = .streaming ∧ fullQueue.qAlloc = true ∧ fullQueue.qCap ≤ fullQueue.qCnt) ∧
      ((q true 0 0 0 .streaming).qAlloc = true ∧
        (q true 0 0 0 .streaming).qCap ≤ (q true 0 0 0 .streaming).qCnt) := by decide
theorem witness_TickOnUnallocatedQueueFaults : gone.mode = .streaming ∧ gone.qAlloc = false := by decide
theorem witness_DrainSendsTheOldestWhileStreaming :
    State.reset.mode = .stopped ∧
      (holding.mode = .streaming ∧ holding.qAlloc = true ∧ holding.qCnt ≠ 0 ∧ holding.qCap ≠ 0 ∧
        holding.qRd.toNat < holding.params.maxCapacity) ∧
      (flowing.mode = .streaming ∧ flowing.qAlloc = true ∧ flowing.qCnt = 0) ∧
      (gone.mode = .streaming ∧ gone.qAlloc = false) := by decide
theorem witness_InitAllocatesAnEmptyQueue :
    (0 : U16).toNat ≤ State.reset.params.maxCapacity ∧ (512 : U16).toNat ≤ State.reset.params.maxCapacity ∧
      State.reset.params.maxCapacity < (513 : U16).toNat ∧
      State.reset.params.maxCapacity < (65535 : U16).toNat := by decide
theorem witness_DeallocReleasesTheQueue : holding.mode = .streaming := by decide
theorem witness_ResetThenInitIsReady : (512 : U16).toNat ≤ holding.params.maxCapacity := by decide
theorem witness_TickAppendsToTheContents :
    (holding.QueueInv ∧ holding.mode = .streaming ∧ ∃ t, exec (.tick ⟨1, 2, 3⟩ true) holding = .next t) ∧
      (fullQueue.QueueInv ∧ fullQueue.mode = .streaming ∧
        ∃ t, exec (.tick ⟨1, 2, 3⟩ true) fullQueue = .next t) :=
  ⟨⟨witness_queueInv_holding, by decide, _, rfl⟩, ⟨witness_queueInv_fullQueue, by decide, _, rfl⟩⟩
theorem witness_PopTakesTheFirstOfTheContents :
    fullQueue.QueueInv ∧ fullQueue.qAlloc = true ∧ fullQueue.qCnt ≠ 0 ∧ fullQueue.mode = .streaming :=
  ⟨witness_queueInv_fullQueue, by decide, by decide, by decide⟩
theorem witness_FifoOrderOverEveryRun :
    (holding.QueueInv ∧
      (∀ i ∈ [Instr.tick ⟨1, 2, 3⟩ true, .startStream, .drain, .cmd 0x0100000000, .cmd 0x0600000000],
        keepsQueue holding i = true) ∧
      ∃ t, runEvents [.tick ⟨1, 2, 3⟩ true, .startStream, .drain, .cmd 0x0100000000, .cmd 0x0600000000]
        holding = .next t) ∧
      keepsQueue State.reset .startStream = false ∧
      keepsQueue { holding with params := clearing } (.cmd 0x0100000000) = false :=
  ⟨⟨witness_queueInv_holding, by decide, _, rfl⟩, by decide, by decide⟩
theorem witness_PushesThenDrainsReturnTheFirstOnes :
    (flowing.QueueInv ∧ flowing.qAlloc = true ∧ flowing.mode = .streaming ∧ flowing.qCnt = 0) ∧
      ((q true 0 0 0 .streaming).QueueInv ∧ (q true 0 0 0 .streaming).qAlloc = true ∧
        (q true 0 0 0 .streaming).qCnt = 0) :=
  ⟨⟨witness_queueInv_flowing, by decide, by decide, by decide⟩,
    ⟨witness_queueInv_capacity_zero, by decide, by decide⟩⟩
theorem witness_IndexArithmeticIsOneSubtraction :
    (holding.QueueInv ∧ holding.qCnt < holding.qCap ∧ holding.qCnt ≠ 0) ∧
      ((q true 512 511 512 .streaming).QueueInv ∧ (q true 512 511 512 .streaming).qCnt ≠ 0) :=
  ⟨⟨witness_queueInv_holding, by decide, by decide⟩, ⟨witness_queueInv_last_index, by decide⟩⟩
theorem witness_TickBeforePopKeepsTheOldest :
    holding.QueueInv ∧ holding.qCnt ≠ 0 ∧ (∃ t, exec (.tick ⟨1, 2, 3⟩ false) holding = .next t) ∧
      holding.qAlloc = true ∧ holding.mode = .streaming :=
  ⟨witness_queueInv_holding, by decide, ⟨_, rfl⟩, by decide, by decide⟩
theorem witness_EveryStepKeepsTheInvariants :
    (offered (strobes 0b00100)).Inv ∧ (nextOf (step (offered (strobes 0b00100)))).isSome = true :=
  ⟨witness_inv_holding, by decide⟩
theorem witness_ResetMeetsTheInvariants : Params.vectors.Legal ∧ bare.Legal ∧ clearing.Legal := by decide
theorem witness_SafeEventCompletesAndKeepsTheInvariants :
    (offered (strobes 0b00100)).Inv ∧ (offered (strobes 0b00100)).qAlloc = true ∧
      safeEvent (offered (strobes 0b00100)).params (.init 512) = true ∧
      safeEvent (offered (strobes 0b00100)).params (.tick ⟨1, 2, 3⟩ true) = true ∧
      safeEvent (offered (strobes 0b00100)).params (.cmd 0x0000000000) = true :=
  ⟨witness_inv_holding, by decide, by decide, by decide, by decide⟩
theorem witness_NoEventFaultsFromReady :
    Params.vectors.Legal ∧ (512 : U16).toNat ≤ Params.vectors.maxCapacity ∧
      ∀ i ∈ [Instr.startStream, .tick ⟨1, 2, 3⟩ true, .init 0, .cmd 0x0000000000, .drain],
        safeEvent Params.vectors i = true := by decide
theorem witness_UnderflowIsUnreachable : flowing.qAlloc = true ∧ flowing.qCnt = 0 := by decide
theorem witness_NotAllocatedRaisedOnlyBy :
    (∀ w, Instr.stopStream ≠ .cmd w) ∧
      exec .stopStream State.reset = .fault (.queueNotAllocated .clear) ∧
      exec .drain gone = .fault (.queueNotAllocated .size) ∧ gone.qAlloc = false :=
  ⟨nofun, rfl, rfl, rfl⟩
theorem witness_ModeMachineTransitions :
    (∃ t, exec .startStream flowing = .next t) ∧ (∃ t, exec .stopStream flowing = .next t) ∧
      (∃ t, exec (.cmd 0x0100000000) flowing = .next t) ∧ (∃ t, exec .drain holding = .next t) ∧
      opcodeOf 0x0100000000 = 0x01 ∧ opcodeOf 0x0000000000 = 0x00 :=
  ⟨⟨_, rfl⟩, ⟨_, rfl⟩, ⟨_, rfl⟩, ⟨_, rfl⟩, by decide, by decide⟩
theorem witness_DeviceRegistersChangedOnlyBy :
    (after (.setTimerPeriod 1000) State.reset).map State.timerPeriod = some 1000 ∧
      (after (.cmd 0x0400000008) State.reset).map State.range = some 8 ∧
      (after (.tick ⟨1, 2, 3⟩ true) flowing).map State.badSampleCount = some 1 := by decide
theorem witness_ChannelMemoriesChangedOnlyBy :
    (∃ t, exec .getSample holding = .next t) ∧ (∀ v bad, Instr.getSample ≠ .tick v bad) ∧
      (∀ c, Instr.getSample ≠ .init c) ∧ Instr.getSample ≠ .dealloc ∧ Instr.getSample ≠ .reset :=
  ⟨⟨_, rfl⟩, nofun, nofun, nofun, nofun⟩
theorem witness_LogGrowsByAtMostOneEntry :
    (∃ t, exec (.tick ⟨1, 2, 3⟩ false) flowing = .next t) ∧ Instr.tick ⟨1, 2, 3⟩ false ≠ .reset ∧
      (∃ t, exec .getRange flowing = .next t) := ⟨⟨_, rfl⟩, nofun, ⟨_, rfl⟩⟩
theorem witness_ParametersAreNeverWritten : ∃ t, exec .dealloc holding = .next t := ⟨_, rfl⟩
theorem witness_SaturatingCountNeverDecreases :
    flowing.params.Legal ∧ flowing.params.badCountPolicy = .saturate ∧
      (after (.tick ⟨1, 2, 3⟩ true) { flowing with badSampleCount := 0xFFFFFFFF }).map
        State.badSampleCount = some 0xFFFFFFFF := by decide
theorem witness_SampleValuesOnlyReachTheMemories :
    ∃ t, exec (.tick ⟨1, 2, 3⟩ false) flowing = .next t := ⟨_, rfl⟩
theorem witness_NoDataAfterStop : holding.qAlloc = true ∧ holding.qCnt ≠ 0 := by decide
theorem witness_LevelOutputsFollowTheState :
    State.reset.params.hasRange = true ∧ bare.hasRange = false := by decide

end Sys2Proof.Tests
end

section
/-! The guard of a step (00_scope R5; log 3). -/

namespace Sys2Proof.Proofs

open Sys2Proof.Machine

/-- Settles O10: the legality test is the first thing a step does, before it looks at the inputs. -/
theorem illegalConfigurationRefused : Obligations.IllegalConfigurationRefused := by
  intro s hIllegal
  rw [step, if_neg hIllegal]

end Sys2Proof.Proofs
end

section
/-! What each register, the memories and the log can do in one instruction, read once off `Effect`
(Laws/Exec): the rules of 10_state on which events write what. -/

namespace Sys2Proof.Proofs

open Sys2Proof.Machine

variable {s t : State} {i : Instr}

/-- The opcode of a host command; an event has none (30_encoding R76). -/
def commandOpcode (i : Instr) : Option U8 :=
  match i with
  | .stopStream => some 0x00
  | .startStream => some 0x01
  | .setTimerPeriod _ => some 0x02
  | .getTimerPeriod => some 0x03
  | .setRange _ => some 0x04
  | .getRange => some 0x05
  | .getSample => some 0x06
  | .getMaxTimerPeriod => some 0x07
  | .getMinTimerPeriod => some 0x08
  | .getBadSampleCount => some 0x09
  | .cmd _ | .tick _ _ | .drain | .init _ | .dealloc | .reset => none

/-- A word decodes to a command of its own opcode, so never to an event. -/
theorem commandOpcode_of_decodeCommand {p : Params} {w : CmdWord} (h : decodeCommand p w = .ok i) :
    commandOpcode i = some (opcodeOf w) := by
  have opcode_eq : ∀ op : U8, (opcodeOf w).toNat = op.toNat → some op = some (opcodeOf w) :=
    fun op hop => congrArg some (BitVec.eq_of_toNat_eq hop.symm)
  simp only [decodeCommand] at h
  split at h <;> rename_i hop
  · cases h; exact opcode_eq 0x00 hop
  · cases h; exact opcode_eq 0x01 hop
  · cases h; exact opcode_eq 0x02 hop
  · cases h; exact opcode_eq 0x03 hop
  · split at h <;> cases h; exact opcode_eq 0x04 hop
  · split at h <;> cases h; exact opcode_eq 0x05 hop
  · cases h; exact opcode_eq 0x06 hop
  · cases h; exact opcode_eq 0x07 hop
  · cases h; exact opcode_eq 0x08 hop
  · split at h <;> cases h; exact opcode_eq 0x09 hop
  · cases h

/-- No word decodes to an event. -/
theorem decodeCommand_ne_event {p : Params} {w : CmdWord} (hi : commandOpcode i = none) :
    decodeCommand p w ≠ .ok i := by
  intro h
  cases hi.symm.trans (commandOpcode_of_decodeCommand h)

/-! ## The model's own fields -/

theorem effect_params (h : Effect s i t) : t.params = s.params := by
  induction h with
  | cmd _ _ _ _ _ ih => exact ih
  | _ => rfl

theorem effect_inbox (h : Effect s i t) : t.inbox = s.inbox := by
  induction h with
  | cmd _ _ _ _ _ ih => exact ih
  | _ => rfl

theorem effect_choices (h : Effect s i t) : t.choices = s.choices := by
  induction h with
  | cmd _ _ _ _ _ ih => exact ih
  | _ => rfl

/-! ## The registers of DeviceState (10_state R25 to R27) -/

theorem effect_timerPeriod (h : Effect s i t) :
    t.timerPeriod = s.timerPeriod ∨
      (i = .reset ∧ t.timerPeriod = s.params.defaultTimerPeriod) ∨
      (((∃ v, i = .setTimerPeriod v) ∨ ∃ w, i = .cmd w ∧ opcodeOf w = 0x02) ∧
        periodAccepted s.params t.timerPeriod = true) := by
  induction h with
  | setPeriod v hv => exact .inr (.inr ⟨.inl ⟨v, rfl⟩, hv⟩)
  | reset => exact .inr (.inl ⟨rfl, rfl⟩)
  | cmd w j u hd _ ih =>
    rcases ih with h | ⟨rfl, _⟩ | ⟨⟨v, rfl⟩ | ⟨w', rfl, _⟩, hv⟩
    · exact .inl h
    · exact absurd hd (decodeCommand_ne_event rfl)
    · exact .inr (.inr ⟨.inr ⟨w, rfl, (Option.some.inj (commandOpcode_of_decodeCommand hd)).symm⟩, hv⟩)
    · exact absurd hd (decodeCommand_ne_event rfl)
  | _ => exact .inl rfl

theorem effect_range (h : Effect s i t) :
    t.range = s.range ∨
      (i = .reset ∧ t.range = s.params.defaultRange) ∨
      (((∃ v, i = .setRange v) ∨ ∃ w, i = .cmd w ∧ opcodeOf w = 0x04) ∧ inRangeSet t.range) := by
  induction h with
  | setRange v _ hv => exact .inr (.inr ⟨.inl ⟨v, rfl⟩, rangeField_mem hv⟩)
  | reset => exact .inr (.inl ⟨rfl, rfl⟩)
  | cmd w j u hd _ ih =>
    rcases ih with h | ⟨rfl, _⟩ | ⟨⟨v, rfl⟩ | ⟨w', rfl, _⟩, hv⟩
    · exact .inl h
    · exact absurd hd (decodeCommand_ne_event rfl)
    · exact .inr (.inr ⟨.inr ⟨w, rfl, (Option.some.inj (commandOpcode_of_decodeCommand hd)).symm⟩, hv⟩)
    · exact absurd hd (decodeCommand_ne_event rfl)
  | _ => exact .inl rfl

theorem effect_badSampleCount (h : Effect s i t) :
    t.badSampleCount = s.badSampleCount ∨
      (i = .reset ∧ t.badSampleCount = 0) ∨
      ∃ v bad, i = .tick v bad ∧ t.badSampleCount = badCountAfter s.params bad s.badSampleCount := by
  induction h with
  | tickDropped v bad => exact .inr (.inr ⟨v, bad, rfl, rfl⟩)
  | tickStored v bad => exact .inr (.inr ⟨v, bad, rfl, rfl⟩)
  | reset => exact .inr (.inl ⟨rfl, rfl⟩)
  | cmd w j u hd _ ih =>
    rcases ih with h | ⟨rfl, _⟩ | ⟨v, bad, rfl, _⟩
    · exact .inl h
    · exact absurd hd (decodeCommand_ne_event rfl)
    · exact absurd hd (decodeCommand_ne_event rfl)
  | _ => exact .inl rfl

/-- A good sample is not counted. -/
@[simp] theorem badCountAfter_good (p : Params) (n : U32) : badCountAfter p false n = n :=
  if_neg (by simp)

/-- Counting below the top adds one without wrapping: the top is below `2^32` (00_scope R5). -/
theorem toNat_succ_of_lt_badCountTop {p : Params} {n : U32} (hp : p.Legal)
    (hn : n.toNat < 2 ^ p.badCountWidth - 1) : (n + 1).toNat = n.toNat + 1 := by
  obtain ⟨_, _, _, _, _, hwidth⟩ := hp
  have htop : 2 ^ p.badCountWidth ≤ 2 ^ 32 := Nat.pow_le_pow_right (by decide) hwidth
  rw [BitVec.toNat_add]
  exact Nat.mod_eq_of_lt (by simp; omega)

/-- 41_devicestate_primitives R115 under `saturate`. -/
theorem le_badCountAfter_of_saturate {p : Params} (hp : p.Legal) (hsat : p.badCountPolicy = .saturate)
    (bad : Bool) (n : U32) : n ≤ badCountAfter p bad n := by
  unfold badCountAfter
  split
  · split
    · rename_i hn
      rw [BitVec.le_def, toNat_succ_of_lt_badCountTop hp hn]
      exact Nat.le_succ _
    · simp [hsat]
  · exact BitVec.le_refl n

/-- The counter never passes its top value, under either policy (10_state R30). -/
theorem badCountAfter_le_top {p : Params} (hp : p.Legal) {n : U32} (hn : n.toNat ≤ badCountTop p)
    (bad : Bool) : (badCountAfter p bad n).toNat ≤ badCountTop p := by
  unfold badCountAfter
  split
  · split
    · rename_i hlt
      rw [toNat_succ_of_lt_badCountTop hp hlt]
      exact hlt
    · split
      · exact Nat.zero_le _
      · exact hn
  · exact hn

/-! ## The channel memories (10_state R31, R32) -/

/-- Which instructions can touch a channel memory or what its unwritten bytes read as. -/
theorem effect_memories (h : Effect s i t) :
    (t.memX = s.memX ∧ t.memY = s.memY ∧ t.memZ = s.memZ ∧ t.epoch = s.epoch) ∨
      (∃ v bad, i = .tick v bad) ∨ (∃ c, i = .init c) ∨ i = .dealloc ∨ i = .reset := by
  induction h with
  | tickStored v bad => exact .inr (.inl ⟨v, bad, rfl⟩)
  | init c => exact .inr (.inr (.inl ⟨c, rfl⟩))
  | dealloc => exact .inr (.inr (.inr (.inl rfl)))
  | reset => exact .inr (.inr (.inr (.inr rfl)))
  | cmd w j u hd _ ih =>
    rcases ih with h | ⟨v, bad, rfl⟩ | ⟨c, rfl⟩ | rfl | rfl
    · exact .inl h
    all_goals exact absurd hd (decodeCommand_ne_event rfl)
  | _ => exact .inl ⟨rfl, rfl, rfl, rfl⟩

/-! ## The log (10_state R38) -/

/-- The entries that an instruction with this effect may append: none, or one that is `SrcRead` exactly for
a tick in Streaming. -/
def AppendsAtMostOne (s : State) (i : Instr) (t : State) : Prop :=
  ∃ l, t.log = s.log ++ l ∧ l.length ≤ 1 ∧
    (.srcRead ∈ l ↔ s.mode = .streaming ∧ ∃ v bad, i = .tick v bad)

/-- An instruction that leaves the log as it is. -/
theorem appendsAtMostOne_of_log_eq (hlog : t.log = s.log)
    (hi : ¬ (s.mode = .streaming ∧ ∃ v bad, i = .tick v bad)) : AppendsAtMostOne s i t :=
  ⟨[], by simp [hlog], by simp, by simpa using hi⟩

/-- An instruction other than TICK that emits one transaction, no `SrcRead`. -/
theorem appendsAtMostOne_of_emit {o : OutTxn} (hlog : t.log = s.log ++ [o]) (ho : o ≠ .srcRead)
    (hi : ∀ v bad, i ≠ .tick v bad) : AppendsAtMostOne s i t :=
  ⟨[o], hlog, by simp, by simp [ho.symm, hi]⟩

/-- A tick in Streaming reads the source. -/
theorem appendsAtMostOne_of_srcRead {v : Sample} {bad : Bool} (hlog : t.log = s.log ++ [.srcRead])
    (hm : s.mode = .streaming) : AppendsAtMostOne s (.tick v bad) t :=
  ⟨[.srcRead], hlog, by simp, by simp [hm]⟩

theorem effect_log (h : Effect s i t) (hi : i ≠ .reset) : AppendsAtMostOne s i t := by
  induction h with
  | setPeriod _ _ => exact appendsAtMostOne_of_emit rfl nofun nofun
  | getPeriod => exact appendsAtMostOne_of_emit rfl nofun nofun
  | getRange _ => exact appendsAtMostOne_of_emit rfl nofun nofun
  | getSample _ _ _ => exact appendsAtMostOne_of_emit rfl nofun nofun
  | getMax => exact appendsAtMostOne_of_emit rfl nofun nofun
  | getMin => exact appendsAtMostOne_of_emit rfl nofun nofun
  | getBad _ => exact appendsAtMostOne_of_emit rfl nofun nofun
  | drain _ _ _ _ => exact appendsAtMostOne_of_emit rfl nofun nofun
  | tickStopped v bad hm => exact appendsAtMostOne_of_log_eq rfl (by simp [hm])
  | tickDropped v bad hm => exact appendsAtMostOne_of_srcRead rfl hm
  | tickStored v bad hm => exact appendsAtMostOne_of_srcRead rfl hm
  | reset => exact absurd rfl hi
  | cmd w j u hd _ ih =>
    obtain ⟨l, hlog, hlen, hsrc⟩ := ih (by rintro rfl; exact decodeCommand_ne_event rfl hd)
    have hj : ¬ ∃ v bad, j = .tick v bad := by
      rintro ⟨v, bad, rfl⟩
      exact decodeCommand_ne_event rfl hd
    exact ⟨l, hlog, hlen, hsrc.trans (and_congr_right' (iff_of_false hj (by simp)))⟩
  | _ => exact appendsAtMostOne_of_log_eq rfl (by simp)

end Sys2Proof.Proofs
end

section
/-! The state's own rules (10_state R25 to R40): what can change a register, the memories, the log; reset;
the level outputs. -/

namespace Sys2Proof.Proofs

open Sys2Proof.Machine

/-- Settles O43, register by register; a tick counts nothing when its answer is good. -/
theorem deviceRegistersChangedOnlyBy : Obligations.DeviceRegistersChangedOnlyBy := by
  intro i s t h
  have he := exec_next h
  refine ⟨fun hne => ?_, fun hne => ?_, fun hne => ?_⟩
  · rcases effect_timerPeriod he with heq | ⟨hi, _⟩ | ⟨hi, _⟩
    · exact absurd heq hne
    · exact .inl hi
    · exact .inr hi
  · rcases effect_range he with heq | ⟨hi, _⟩ | ⟨hi, _⟩
    · exact absurd heq hne
    · exact .inl hi
    · exact .inr hi
  · rcases effect_badSampleCount he with heq | ⟨hi, _⟩ | ⟨v, bad, rfl, hcount⟩
    · exact absurd heq hne
    · exact .inl hi
    · cases bad with
      | false => exact absurd (hcount.trans (badCountAfter_good _ _)) hne
      | true => exact .inr ⟨v, rfl⟩

/-- Settles O44: the memories and the epoch, which together give every byte its value, stay. -/
theorem channelMemoriesChangedOnlyBy : Obligations.ChannelMemoriesChangedOnlyBy := by
  intro i s t h hTick hInit hDealloc hReset ch a
  rcases effect_memories (exec_next h) with
    ⟨hx, hy, hz, hepoch⟩ | ⟨v, bad, hi⟩ | ⟨c, hi⟩ | hi | hi
  · exact readByte_congr hx hy hz hepoch ch a
  · exact absurd hi (hTick v bad)
  · exact absurd hi (hInit c)
  · exact absurd hi hDealloc
  · exact absurd hi hReset

/-- Settles O45, from the log of each effect. -/
theorem logGrowsByAtMostOneEntry : Obligations.LogGrowsByAtMostOneEntry :=
  fun _ _ _ h hi => effect_log (exec_next h) hi

/-- Settles O46: no effect names one of the three fields. -/
theorem parametersAreNeverWritten : Obligations.ParametersAreNeverWritten := by
  intro i s t h
  have he := exec_next h
  exact ⟨effect_params he, effect_inbox he, effect_choices he⟩

/-- Settles O47: only a tick writes the counter, and under `saturate` it never lowers it. -/
theorem saturatingCountNeverDecreases : Obligations.SaturatingCountNeverDecreases := by
  intro i s t hLegal hSat hi h
  rcases effect_badSampleCount (exec_next h) with heq | ⟨hReset, _⟩ | ⟨v, bad, _, hcount⟩
  · rw [heq]; exact BitVec.le_refl _
  · exact absurd hReset hi
  · rw [hcount]; exact le_badCountAfter_of_saturate hLegal hSat bad _

/-- Settles O28: RESET's one effect is the reset table. -/
theorem resetGivesTheResetTable : Obligations.ResetGivesTheResetTable := by
  intro s
  show Host.Outcome.next (resetState s) = _
  rfl

/-- Settles O51: by the two modes and by the presence of the range register. -/
theorem levelOutputsFollowTheState : Obligations.LevelOutputsFollowTheState := by
  intro s
  refine ⟨?_, rfl, fun hRange => if_pos hRange, fun hRange => if_neg (by simp [hRange])⟩
  unfold State.modeOut
  cases s.mode <;> decide

end Sys2Proof.Proofs
end

section
/-! One step from the inputs: what `fetch` takes and leaves, per shape of the inbox and of the servable
strobes (30_encoding R71; 60_exceptions R188), and the step it makes. -/

namespace Sys2Proof.Proofs

open Sys2Proof.Machine

variable {s s' : State} {p : Ports} {rest : List Ports}

/-! ## The fetch -/

theorem fetch_empty (h : s.inbox = []) : fetch s = (none, s) := by
  simp only [fetch, h]

theorem fetch_reset (h : s.inbox = p :: rest) (hrst : p.rst = true) :
    fetch s = (some .reset, { s with inbox := rest }) := by
  simp only [fetch, h, if_pos hrst]

theorem fetch_none_serviceable (h : s.inbox = p :: rest) (hrst : p.rst = false)
    (hk : serviceable s p = []) :
    fetch s = (none, { s with inbox := rest, irqPending := tickWaiting s p }) := by
  simp [fetch, h, hrst, hk]

theorem fetch_one_serviceable {k : Strobe} (h : s.inbox = p :: rest) (hrst : p.rst = false)
    (hk : serviceable s p = [k]) :
    fetch s = (some (eventOf k p),
      { s with inbox := rest, irqPending := tickWaiting s p && decide (k ≠ .tickIrq) }) := by
  simp [fetch, h, hrst, hk]

/-- Several servable strobes: the snapshot stays at the head with the ones not served. -/
theorem fetch_several_serviceable {k k' : Strobe} {ks : List Strobe} (h : s.inbox = p :: rest)
    (hrst : p.rst = false) (hk : serviceable s p = k :: k' :: ks) :
    fetch s = (some (eventOf (chooseStrobe s.choices k (k' :: ks)) p),
      { s with
        inbox := { p with ev := strobeWord ((foregroundStrobes p).filter
          (fun j => decide (j ≠ chooseStrobe s.choices k (k' :: ks)))) } :: rest
        irqPending := tickWaiting s p && decide (chooseStrobe s.choices k (k' :: ks) ≠ .tickIrq)
        choices := s.choices + 1 }) := by
  simp [fetch, h, hrst, hk]

/-! ## The servable strobes -/

/-- With no critical section open a waiting tick heads the servable strobes. -/
theorem serviceable_of_tickWaiting (hmask : s.irqMask = false) (htick : tickWaiting s p = true) :
    serviceable s p = .tickIrq :: foregroundStrobes p := by
  simp [serviceable, hmask, htick]

/-- Neither no strobe nor the tick's alone is a foreground event's. -/
theorem foregroundStrobes_eq_nil (h : p.ev = 0b00000 ∨ p.ev = 0b00010) : foregroundStrobes p = [] := by
  unfold foregroundStrobes
  rcases h with h | h <;> rw [h] <;> decide

/-! ## The step -/

theorem step_of_fetch_some {i : Instr} (hLegal : s.params.Legal) (h : fetch s = (some i, s')) :
    step s = exec i s' := by
  rw [step, if_pos hLegal, h]

theorem step_of_fetch_none (hLegal : s.params.Legal) (h : fetch s = (none, s')) :
    step s = .next s' := by
  rw [step, if_pos hLegal, h]

end Sys2Proof.Proofs
end

section
/-! A step with at most one servable strobe (10_state R36; 60_exceptions R188). -/

namespace Sys2Proof.Proofs

open Sys2Proof.Machine

/-- Settles O52, clause by clause from the fetch; a held tick is the one servable strobe of a snapshot that
asserts no other. -/
theorem loneServableStrobeIsServed : Obligations.LoneServableStrobeIsServed := by
  intro s p rest hLegal hInbox hrst
  have serves_lone : ∀ k, serviceable s p = [k] → step s = exec (eventOf k p)
      { s with inbox := rest, irqPending := tickWaiting s p && decide (k ≠ .tickIrq) } :=
    fun k hk => step_of_fetch_some hLegal (fetch_one_serviceable hInbox hrst hk)
  refine ⟨serves_lone, fun hPending hMask hev => ?_, fun hk =>
    step_of_fetch_none hLegal (fetch_none_serviceable hInbox hrst hk)⟩
  have htick : serviceable s p = [.tickIrq] := by
    rw [serviceable_of_tickWaiting hMask (by simp [tickWaiting, hPending]), foregroundStrobes_eq_nil hev]
  simpa [eventOf] using serves_lone .tickIrq htick

end Sys2Proof.Proofs
end

section
/-! The invariants of the block (10_state R30 to R36): every effect keeps them, part by part; reset has them
and the fetch keeps them. -/

namespace Sys2Proof.Proofs

open Sys2Proof.Machine

variable {s t : State} {i : Instr}

/-! ## The queue's registers (10_state R33) -/

/-- The next read index fits its 16 bits. -/
theorem nextReadIndex_toNat (hcap : s.qCap ≠ 0) :
    (nextReadIndex s).toNat = (s.qRd.toNat + 1) % s.qCap.toNat := by
  have hpos : 0 < s.qCap.toNat := Nat.pos_of_ne_zero (fun h0 => hcap (BitVec.eq_of_toNat_eq h0))
  have hlt := Nat.mod_lt (s.qRd.toNat + 1) hpos
  rw [nextReadIndex, BitVec.toNat_ofNat]
  exact Nat.mod_eq_of_lt (hlt.trans s.qCap.isLt)

/-- A queue that holds a sample has a capacity. -/
theorem qCap_ne_zero_of_qCnt_ne_zero (h : s.QueueInv) (hc : s.qCnt ≠ 0) : s.qCap ≠ 0 := by
  have hle := h.cnt_le
  bv_omega

/-- A queue with both pointers at 0 has them in bounds, whatever its capacity. -/
theorem queueInv_of_cleared (hcap : t.qCap.toNat ≤ t.params.maxCapacity) (hrd : t.qRd = 0)
    (hcnt : t.qCnt = 0) (ha : t.qAlloc = false → t.qCap = 0) : t.QueueInv where
  cap_le := hcap
  cnt_le := by rw [hcnt]; exact Nat.zero_le _
  rd_lt := by
    rw [hrd]
    by_cases h0 : t.qCap = 0
    · exact .inr ⟨h0, rfl⟩
    · exact .inl (by bv_omega)
  unallocated := fun hu => ⟨ha hu, hrd, hcnt⟩

theorem sentState_queueInv (h : s.QueueInv) (ha : s.qAlloc = true) (hc : s.qCnt ≠ 0) :
    (sentState s).QueueInv where
  cap_le := h.cap_le
  cnt_le := by
    have hle := h.cnt_le
    show s.qCnt - 1 ≤ s.qCap
    bv_omega
  rd_lt := by
    have hcap := qCap_ne_zero_of_qCnt_ne_zero h hc
    left
    show nextReadIndex s < s.qCap
    rw [BitVec.lt_def, nextReadIndex_toNat hcap]
    exact Nat.mod_lt _ (by bv_omega)
  unallocated := fun hu => absurd (ha.symm.trans hu) (by decide)

theorem storedState_queueInv (v : Sample) (bad : Bool) (h : s.QueueInv) (ha : s.qAlloc = true)
    (hroom : s.qCnt < s.qCap) : (storedState v bad s).QueueInv where
  cap_le := h.cap_le
  cnt_le := by
    show s.qCnt + 1 ≤ s.qCap
    bv_omega
  rd_lt := h.rd_lt
  unallocated := fun hu => absurd (ha.symm.trans hu) (by decide)

theorem effect_queueInv (he : Effect s i t) (h : s.QueueInv) : t.QueueInv := by
  induction he with
  | stop _ => exact queueInv_of_cleared h.cap_le rfl rfl (fun hu => (h.unallocated hu).1)
  | start _ _ => exact queueInv_of_cleared h.cap_le rfl rfl (fun hu => (h.unallocated hu).1)
  | startClears _ _ _ => exact queueInv_of_cleared h.cap_le rfl rfl (fun hu => (h.unallocated hu).1)
  | getSample ha hc _ => exact sentState_queueInv h ha hc
  | drain _ ha hc _ => exact sentState_queueInv h ha hc
  | tickStored v bad _ ha hroom _ => exact storedState_queueInv v bad h ha hroom
  | init c hc => exact queueInv_of_cleared hc rfl rfl nofun
  | dealloc => exact queueInv_of_cleared (Nat.zero_le _) rfl rfl (fun _ => rfl)
  | reset => exact queueInv_of_cleared (Nat.zero_le _) rfl rfl (fun _ => rfl)
  | cmd _ _ _ _ _ ih => exact ih
  | _ => exact ⟨h.cap_le, h.cnt_le, h.rd_lt, h.unallocated⟩

/-! ## DeviceState (10_state R30) -/

theorem effect_deviceInv (he : Effect s i t) (hp : s.params.Legal) (h : s.DeviceInv) : t.DeviceInv := by
  have ⟨_, _, ⟨hmin, hmax⟩, hrange, _⟩ := hp
  have hparams := effect_params he
  have hperiod : s.params.minTimerPeriod ≤ t.timerPeriod ∧ t.timerPeriod ≤ s.params.maxTimerPeriod := by
    rcases effect_timerPeriod he with heq | ⟨_, heq⟩ | ⟨_, hacc⟩
    · rw [heq]; exact ⟨h.period_ge, h.period_le⟩
    · rw [heq]; exact ⟨hmin, hmax⟩
    · exact (periodAccepted_iff _ _).1 hacc
  refine ⟨hparams ▸ hperiod.1, hparams ▸ hperiod.2, ?_, ?_⟩
  · rcases effect_range he with heq | ⟨_, heq⟩ | ⟨_, hmem⟩
    · rw [heq]; exact h.range_mem
    · rw [heq]; exact hrange
    · exact hmem
  · rw [hparams]
    rcases effect_badSampleCount he with heq | ⟨_, heq⟩ | ⟨_, bad, _, heq⟩
    · rw [heq]; exact h.bad_count_le
    · rw [heq]; exact Nat.zero_le _
    · rw [heq]; exact badCountAfter_le_top hp h.bad_count_le bad

/-! ## The channel memories (10_state R31, R32) -/

/-- An empty queue asks nothing to have been written. -/
theorem memoryInv_of_empty (hwf : ∀ ch, memWf (t.channel ch))
    (hb : ∀ ch, ∀ c ∈ t.channel ch, c.1 < 2 * t.params.maxCapacity) (hcnt : t.qCnt = 0) :
    t.MemoryInv := by
  refine ⟨hwf, hb, fun ch k hk => ?_⟩
  rw [hcnt] at hk
  exact absurd hk (Nat.not_lt_zero k)

/-- Memories in which nothing is written, of an empty queue. -/
theorem memoryInv_of_forgotten (hmem : ∀ ch, t.channel ch = []) (hcnt : t.qCnt = 0) : t.MemoryInv :=
  memoryInv_of_empty (fun ch => by rw [hmem ch]; exact memWf_nil)
    (fun ch => by rw [hmem ch]; exact nofun) hcnt

/-- The samples left after a `pop` were queued before it, one place further on. -/
theorem sentState_memoryInv (hq : s.QueueInv) (h : s.MemoryInv) (hc : s.qCnt ≠ 0) :
    (sentState s).MemoryInv where
  wf := h.wf
  bounded := h.bounded
  live := by
    intro ch k hk
    have hcnt : k + 1 < s.qCnt.toNat := by
      have hk : k < (s.qCnt - 1).toNat := hk
      bv_omega
    have hindex : ((nextReadIndex s).toNat + k) % s.qCap.toNat =
        (s.qRd.toNat + (k + 1)) % s.qCap.toNat := by
      rw [nextReadIndex_toNat (qCap_ne_zero_of_qCnt_ne_zero hq hc), Nat.mod_add_mod, Nat.add_assoc,
        Nat.add_comm 1 k]
    have hlive := h.live ch (k + 1) hcnt
    rw [← hindex] at hlive
    exact hlive

/-- After a stored tick the queued samples are the old ones and the one at the write index. -/
theorem storedState_memoryInv (v : Sample) (bad : Bool) (h : s.MemoryInv)
    (hi : writeIndex s < s.params.maxCapacity) : (storedState v bad s).MemoryInv where
  wf := by
    intro ch
    show memWf ((writeSample s (writeIndex s) v).channel ch)
    rw [writeSample_channel]
    exact memWf_storeS16 (h.wf ch) _ _
  bounded := by
    intro ch
    show ∀ c ∈ (writeSample s (writeIndex s) v).channel ch, c.1 < 2 * s.params.maxCapacity
    rw [writeSample_channel]
    exact bounded_storeS16 (h.bounded ch) hi _
  live := by
    intro ch k hk
    show written (writeSample s (writeIndex s) v) ch (2 * ((s.qRd.toNat + k) % s.qCap.toNat)) ∧
      written (writeSample s (writeIndex s) v) ch (2 * ((s.qRd.toNat + k) % s.qCap.toNat) + 1)
    simp only [written_writeSample]
    have hk : k < (s.qCnt + 1).toNat := hk
    have hk : k < s.qCnt.toNat ∨ k = s.qCnt.toNat := by bv_omega
    rcases hk with hk | rfl
    · obtain ⟨hlow, hhigh⟩ := h.live ch k hk
      exact ⟨.inr (.inr hlow), .inr (.inr hhigh)⟩
    · exact ⟨.inr (.inl rfl), .inl rfl⟩

theorem effect_memoryInv (he : Effect s i t) (hq : s.QueueInv) (h : s.MemoryInv) : t.MemoryInv := by
  induction he with
  | stop _ => exact memoryInv_of_empty h.wf h.bounded rfl
  | start _ _ => exact memoryInv_of_empty h.wf h.bounded rfl
  | startClears _ _ _ => exact memoryInv_of_empty h.wf h.bounded rfl
  | getSample _ hc _ => exact sentState_memoryInv hq h hc
  | drain _ _ hc _ => exact sentState_memoryInv hq h hc
  | tickStored v bad _ _ _ hi => exact storedState_memoryInv v bad h hi
  | init c _ => exact memoryInv_of_forgotten (channel_forgetMemories _) rfl
  | dealloc => exact memoryInv_of_forgotten (channel_forgetMemories _) rfl
  | reset => exact memoryInv_of_forgotten (fun ch => by cases ch <;> rfl) rfl
  | cmd _ _ _ _ _ ih => exact ih
  | _ => exact ⟨h.wf, h.bounded, h.live⟩

/-! ## Mode, mask, context and pending tick (10_state R33 I6, R35, R36) -/

theorem effect_stopped_empty (he : Effect s i t) (h : s.mode = .stopped → s.qCnt = 0) :
    t.mode = .stopped → t.qCnt = 0 := by
  induction he with
  | stop _ => exact fun _ => rfl
  | start _ _ => exact nofun
  | startClears _ _ _ => exact fun _ => rfl
  | getSample _ hc _ => exact fun hm => absurd (h hm) hc
  | drain hm _ _ _ => exact fun hm' => absurd (hm.symm.trans hm') (by decide)
  | tickStored v bad hm _ _ _ => exact fun hm' => absurd (hm.symm.trans hm') (by decide)
  | init _ _ => exact fun _ => rfl
  | dealloc => exact fun _ => rfl
  | reset => exact fun _ => rfl
  | cmd _ _ _ _ _ ih => exact ih
  | _ => exact h

theorem effect_unmasked (he : Effect s i t) (h : s.irqMask = false) : t.irqMask = false := by
  induction he with
  | cmd _ _ _ _ _ ih => exact ih
  | getSample _ _ _ => rfl
  | drain _ _ _ _ => rfl
  | tickDropped _ _ _ _ _ => rfl
  | tickStored _ _ _ _ _ _ => rfl
  | reset => rfl
  | _ => exact h

theorem effect_foreground (he : Effect s i t) (h : s.context = .foreground) :
    t.context = .foreground := by
  induction he with
  | cmd _ _ _ _ _ ih => exact ih
  | tickStopped _ _ _ => rfl
  | tickDropped _ _ _ _ _ => rfl
  | tickStored _ _ _ _ _ _ => rfl
  | reset => rfl
  | _ => exact h

/-- No instruction makes a tick pending. -/
theorem effect_irqPending (he : Effect s i t) (h : t.irqPending = true) : s.irqPending = true := by
  induction he with
  | cmd _ _ _ _ _ ih => exact ih h
  | tickStopped _ _ _ => cases h
  | tickDropped _ _ _ _ _ => cases h
  | tickStored _ _ _ _ _ _ => cases h
  | reset => cases h
  | _ => exact h

/-! ## Instruction, reset and fetch -/

theorem effect_inv (he : Effect s i t) (h : s.Inv) : t.Inv where
  legal := effect_params he ▸ h.legal
  queue := effect_queueInv he h.queue
  device := effect_deviceInv he h.legal h.device
  memory := effect_memoryInv he h.queue h.memory
  stopped_empty := effect_stopped_empty he h.stopped_empty
  unmasked := effect_unmasked he h.unmasked
  foreground := effect_foreground he h.foreground
  pending := fun hp => effect_inbox he ▸ h.pending (effect_irqPending he hp)

/-- Every instruction with a next state keeps the invariants. -/
theorem exec_inv (h : s.Inv) (hexec : exec i s = .next t) : t.Inv := effect_inv (exec_next hexec) h

theorem resetWith_inv {p : Params} (hp : p.Legal) : (State.resetWith p).Inv where
  legal := hp
  queue := queueInv_of_cleared (Nat.zero_le _) rfl rfl (fun _ => rfl)
  device := by
    obtain ⟨_, _, ⟨hmin, hmax⟩, hrange, _⟩ := hp
    exact ⟨hmin, hmax, hrange, Nat.zero_le _⟩
  memory := memoryInv_of_forgotten (fun ch => by cases ch <;> rfl) rfl
  stopped_empty := fun _ => rfl
  unmasked := rfl
  foreground := rfl
  pending := nofun

/-- Of the fields of the inputs and the model's own counters `Inv` restricts only the pending tick. -/
theorem inv_withInputs (h : s.Inv) {inbox : List Ports} {pending : Bool} (epoch choices : Nat)
    (hpending : pending = true → inbox ≠ []) :
    { s with inbox := inbox, irqPending := pending, epoch := epoch, choices := choices }.Inv where
  legal := h.legal
  queue := ⟨h.queue.cap_le, h.queue.cnt_le, h.queue.rd_lt, h.queue.unallocated⟩
  device := ⟨h.device.period_ge, h.device.period_le, h.device.range_mem, h.device.bad_count_le⟩
  memory := ⟨h.memory.wf, h.memory.bounded, h.memory.live⟩
  stopped_empty := h.stopped_empty
  unmasked := h.unmasked
  foreground := h.foreground
  pending := hpending

theorem resetState_inv (hp : s.params.Legal) : (resetState s).Inv :=
  inv_withInputs (resetWith_inv hp) (s.epoch + 1) s.choices nofun

/-- A fetch other than RESET's keeps the invariants: with no critical section open a waiting tick is
servable, so it is left over only beside a snapshot that stays at the head. -/
theorem fetch_reset_or_inv (h : s.Inv) : (∃ u, fetch s = (some .reset, u) ∧ u.params = s.params) ∨
    (fetch s).2.Inv := by
  cases hInbox : s.inbox with
  | nil => rw [fetch_empty hInbox]; exact .inr h
  | cons p rest =>
    cases hrst : p.rst with
    | true => exact .inl ⟨_, fetch_reset hInbox hrst, rfl⟩
    | false =>
      right
      have tick_first := serviceable_of_tickWaiting (p := p) h.unmasked
      match hk : serviceable s p with
      | [] =>
        rw [fetch_none_serviceable hInbox hrst hk]
        refine inv_withInputs h s.epoch s.choices (fun htick => ?_)
        cases hk.symm.trans (tick_first htick)
      | [k] =>
        rw [fetch_one_serviceable hInbox hrst hk]
        refine inv_withInputs h s.epoch s.choices (fun hleft => ?_)
        obtain ⟨htick, hne⟩ := Bool.and_eq_true_iff.1 hleft
        exact absurd (List.cons.inj (hk.symm.trans (tick_first htick))).1 (of_decide_eq_true hne)
      | k :: k' :: ks =>
        rw [fetch_several_serviceable hInbox hrst hk]
        exact inv_withInputs h s.epoch (s.choices + 1) (fun _ => List.cons_ne_nil _ _)

end Sys2Proof.Proofs
end

section
/-! The invariants settled: reset has them and every step keeps them. -/

namespace Sys2Proof.Proofs

open Sys2Proof.Machine

/-- Settles O37; the configuration of `State.reset` is a legal one. -/
theorem resetMeetsTheInvariants : Obligations.ResetMeetsTheInvariants :=
  ⟨fun _ hp => resetWith_inv hp, resetWith_inv (by decide)⟩

/-- Settles O36: the fetch keeps the invariants and so does the instruction it takes; a fetched RESET
restores them whatever its snapshot left. -/
theorem everyStepKeepsTheInvariants : Obligations.EveryStepKeepsTheInvariants := by
  intro s t h hstep
  rcases fetch_reset_or_inv h with ⟨u, hfetch, hparams⟩ | hu
  · rw [step_of_fetch_some h.legal hfetch] at hstep
    cases hstep
    exact resetState_inv (hparams ▸ h.legal)
  · match hfetch : fetch s with
    | (none, u) =>
      rw [hfetch] at hu
      rw [step_of_fetch_none h.legal hfetch] at hstep
      cases hstep
      exact hu
    | (some i, u) =>
      rw [hfetch] at hu
      rw [step_of_fetch_some h.legal hfetch] at hstep
      exact exec_inv hu hstep

end Sys2Proof.Proofs
end

section
/-! The queue's indexes and what it holds (10_state R33; 20_memory R56, R62): the reduction by the capacity,
and the list of queued samples after a `pop` and after a stored tick. -/

namespace Sys2Proof.Proofs

open Sys2Proof.Machine

variable {s t : State} {i : Instr}

/-! ## Indexes (20_memory R62) -/

/-- The read index of a queue with a capacity is one of its indexes. -/
theorem qRd_toNat_lt_qCap (h : s.QueueInv) (hcap : s.qCap ≠ 0) : s.qRd.toNat < s.qCap.toNat := by
  rcases h.rd_lt with hlt | ⟨h0, _⟩
  · exact BitVec.lt_def.1 hlt
  · exact absurd h0 hcap

theorem qRd_toNat_lt_maxCapacity (h : s.QueueInv) (hc : s.qCnt ≠ 0) :
    s.qRd.toNat < s.params.maxCapacity :=
  (qRd_toNat_lt_qCap h (qCap_ne_zero_of_qCnt_ne_zero h hc)).trans_le h.cap_le

theorem qCap_ne_zero_of_room (hroom : s.qCnt < s.qCap) : s.qCap ≠ 0 := by bv_omega

theorem writeIndex_lt_qCap (hroom : s.qCnt < s.qCap) : writeIndex s < s.qCap.toNat :=
  Nat.mod_lt _ (by bv_omega)

/-- Both summands are below the capacity, so one subtraction reduces the sum. -/
theorem writeIndex_eq_sub_once (h : s.QueueInv) (hroom : s.qCnt < s.qCap) :
    writeIndex s = if s.qRd.toNat + s.qCnt.toNat < s.qCap.toNat then s.qRd.toNat + s.qCnt.toNat
      else s.qRd.toNat + s.qCnt.toNat - s.qCap.toNat := by
  have hrd := qRd_toNat_lt_qCap h (qCap_ne_zero_of_room hroom)
  rw [writeIndex, Nat.add_mod_eq_ite, Nat.mod_eq_of_lt hrd, Nat.mod_eq_of_lt (BitVec.lt_def.1 hroom)]
  split_ifs <;> omega

/-- The next read index wraps to 0 at the capacity. -/
theorem nextReadIndex_eq_succ_or_zero (h : s.QueueInv) (hc : s.qCnt ≠ 0) :
    (nextReadIndex s).toNat = if s.qRd.toNat + 1 < s.qCap.toNat then s.qRd.toNat + 1 else 0 := by
  have hcap := qCap_ne_zero_of_qCnt_ne_zero h hc
  have hrd := qRd_toNat_lt_qCap h hcap
  rw [nextReadIndex_toNat hcap]
  split
  · exact Nat.mod_eq_of_lt ‹_›
  · rw [show s.qRd.toNat + 1 = s.qCap.toNat by omega, Nat.mod_self]

/-- The `k`-th sample after a `pop` stands where the next one stood before it. -/
theorem sentState_index (h : s.QueueInv) (hc : s.qCnt ≠ 0) (k : Nat) :
    ((nextReadIndex s).toNat + k) % s.qCap.toNat = (s.qRd.toNat + (k + 1)) % s.qCap.toNat := by
  rw [nextReadIndex_toNat (qCap_ne_zero_of_qCnt_ne_zero h hc), Nat.mod_add_mod, Nat.add_assoc,
    Nat.add_comm 1 k]

/-- With room no queued sample stands at the write index. -/
theorem writeIndex_ne_index_of_queued (hroom : s.qCnt < s.qCap) {k : Nat} (hk : k < s.qCnt.toNat) :
    writeIndex s ≠ (s.qRd.toNat + k) % s.qCap.toNat := by
  intro heq
  have hlt : s.qCnt.toNat < s.qCap.toNat := BitVec.lt_def.1 hroom
  have hmod : s.qCnt.toNat % s.qCap.toNat = k % s.qCap.toNat := Nat.ModEq.add_left_cancel' _ heq
  rw [Nat.mod_eq_of_lt hlt, Nat.mod_eq_of_lt (hk.trans hlt)] at hmod
  omega

/-! ## The queued samples -/

@[simp] theorem contents_length (s : State) : (contents s).length = s.qCnt.toNat := by simp [contents]

/-- `pop` takes the sample at the read index off the front (40_queue_primitives R92). -/
theorem contents_eq_cons_sentState (h : s.QueueInv) (hc : s.qCnt ≠ 0) :
    contents s = readSample s s.qRd.toNat :: contents (sentState s) := by
  have hrd := qRd_toNat_lt_qCap h (qCap_ne_zero_of_qCnt_ne_zero h hc)
  have hcnt : s.qCnt.toNat = (s.qCnt - 1).toNat + 1 := by bv_omega
  have htail : contents (sentState s) = (List.range (s.qCnt - 1).toNat).map
      (fun k => readSample s ((s.qRd.toNat + (k + 1)) % s.qCap.toNat)) := by
    refine List.map_congr_left fun k _ => ?_
    rw [← sentState_index h hc k]
    exact readSample_congr rfl rfl rfl rfl _
  rw [contents, htail, hcnt, List.range_succ_eq_map, List.map_cons, List.map_map, Nat.add_zero,
    Nat.mod_eq_of_lt hrd]
  rfl

/-- A stored tick puts its sample behind the ones queued and overwrites none of them
(40_queue_primitives R91). -/
theorem contents_storedState (v : Sample) (bad : Bool) (hroom : s.qCnt < s.qCap) :
    contents (storedState v bad s) = contents s ++ [v] := by
  have hcnt : (s.qCnt + 1).toNat = s.qCnt.toNat + 1 := by bv_omega
  have hread : ∀ idx, readSample (storedState v bad s) idx =
      if writeIndex s = idx then v else readSample s idx :=
    fun idx => (readSample_congr rfl rfl rfl rfl idx).trans (readSample_writeSample s _ idx v)
  have hold : (List.range s.qCnt.toNat).map (fun k =>
      readSample (storedState v bad s) ((s.qRd.toNat + k) % s.qCap.toNat)) = contents s := by
    refine List.map_congr_left fun k hk => ?_
    rw [hread, if_neg (writeIndex_ne_index_of_queued hroom (List.mem_range.1 hk))]
  have hnew : readSample (storedState v bad s) ((s.qRd.toNat + s.qCnt.toNat) % s.qCap.toNat) = v := by
    rw [hread]
    exact if_pos rfl
  show (List.range (s.qCnt + 1).toNat).map (fun k =>
    readSample (storedState v bad s) ((s.qRd.toNat + k) % s.qCap.toNat)) = contents s ++ [v]
  rw [hcnt, List.range_succ, List.map_append, hold, List.map_singleton, hnew]

/-! ## The pushes that are not dropped -/

theorem acceptedPush_tick_stored (v : Sample) (bad : Bool) (hm : s.mode = .streaming)
    (hroom : s.qCnt < s.qCap) : acceptedPush (.tick v bad) s = [v] := if_pos ⟨hm, hroom⟩

theorem acceptedPush_tick_stopped (v : Sample) (bad : Bool) (hm : s.mode = .stopped) :
    acceptedPush (.tick v bad) s = [] := if_neg (by simp [hm])

theorem acceptedPush_tick_full (v : Sample) (bad : Bool) (hfull : s.qCap ≤ s.qCnt) :
    acceptedPush (.tick v bad) s = [] := if_neg (fun hroom => BitVec.not_lt.2 hfull hroom.2)

/-- A host command pushes nothing. -/
theorem acceptedPush_of_commandOpcode {op : U8} (h : commandOpcode i = some op) :
    acceptedPush i s = [] := by
  cases i with
  | tick v bad => cases h
  | _ => rfl

/-- What the queue holds after a tick, in either mode. -/
theorem effect_tick_contents {v : Sample} {bad : Bool} (he : Effect s (.tick v bad) t) :
    contents t = contents s ++ acceptedPush (.tick v bad) s := by
  cases he with
  | tickStopped _ _ hm => rw [acceptedPush_tick_stopped v bad hm, List.append_nil]; rfl
  | tickDropped _ _ _ _ hfull => rw [acceptedPush_tick_full v bad hfull, List.append_nil]; rfl
  | tickStored _ _ hm _ hroom _ =>
    rw [acceptedPush_tick_stored v bad hm hroom, contents_storedState v bad hroom]

/-! ## The consumers (42_host_commands R136, 43_events R162) -/

/-- GET_SAMPLE, and DRAIN in Streaming, on a queue that holds a sample. -/
theorem exec_pop (h : s.QueueInv) (ha : s.qAlloc = true) (hc : s.qCnt ≠ 0)
    (hi : i = .getSample ∨ (i = .drain ∧ s.mode = .streaming)) : exec i s = .next (sentState s) := by
  have hsend : sendOldest s = .ok (sentState s) :=
    sendOldest_some s ha hc (qRd_toNat_lt_maxCapacity h hc)
  rcases hi with rfl | ⟨rfl, hm⟩
  · exact congrArg ofPrimitive hsend
  · simp only [exec, execDrain, hm, hsend, ofPrimitive]

end Sys2Proof.Proofs
end

section
/-! Every event that keeps the queue (20_memory R56) stores one sample, sends one, or leaves the queue
alone: the one step of the FIFO law. -/

namespace Sys2Proof.Proofs

open Sys2Proof.Machine

variable {s t : State} {i : Instr}

/-! ## The samples sent -/

@[simp] theorem sentSamples_append (l m : List OutTxn) :
    sentSamples (l ++ m) = sentSamples l ++ sentSamples m := List.filterMap_append

/-- A log entry that is no sample leaves the samples sent as they were. -/
theorem sentSamples_append_other (l : List OutTxn) {o : OutTxn} (ho : o.sample? = none) :
    sentSamples (l ++ [o]) = sentSamples l := by
  simp [sentSamples, ho]

/-! ## What such an event can do -/

/-- `t` holds the samples of `s` at the same places, in the same mode, and has sent the same ones. -/
structure QueueUntouched (s t : State) : Prop where
  mode : t.mode = s.mode
  qAlloc : t.qAlloc = s.qAlloc
  contents : contents t = contents s
  sent : sentSamples t.log = sentSamples s.log

/-- An event's part in the FIFO law, with the samples it pushed and the queue did not drop. -/
inductive FifoMove (s : State) : List Sample → State → Prop where
  | stored (v : Sample) (bad : Bool) : s.qCnt < s.qCap → FifoMove s [v] (storedState v bad s)
  | sent : s.qCnt ≠ 0 → FifoMove s [] (sentState s)
  | untouched {t : State} : QueueUntouched s t → FifoMove s [] t

theorem fifoMove_refl (s : State) : FifoMove s [] s := .untouched ⟨rfl, rfl, rfl, rfl⟩

/-- An event that appends one log entry, no sample, and changes no field of the queue. -/
theorem fifoMove_of_append {o : OutTxn} (hlog : t.log = s.log ++ [o]) (ho : o.sample? = none)
    (hm : t.mode = s.mode) (ha : t.qAlloc = s.qAlloc) (hcontents : contents t = contents s) :
    FifoMove s [] t :=
  .untouched ⟨hm, ha, hcontents, by rw [hlog, sentSamples_append_other _ ho]⟩

theorem startKeepsQueue_iff (s : State) :
    startKeepsQueue s = true ↔ s.mode = .streaming ∧ s.params.startClearsWhenStreaming = false := by
  simp [startKeepsQueue]

/-- A command word keeps the queue when the command it decodes to does. -/
theorem keepsQueue_of_decodeCommand {p : Params} {w : CmdWord} (hd : decodeCommand p w = .ok i)
    (hk : keepsQueue s (.cmd w) = true) : keepsQueue s i = true := by
  have hop := commandOpcode_of_decodeCommand hd
  cases i with
  | stopStream => simp [keepsQueue, ← Option.some.inj hop] at hk
  | startStream => simpa [keepsQueue, ← Option.some.inj hop] using hk
  | cmd _ | tick _ _ | drain | init _ | dealloc | reset => cases hop
  | _ => rfl

/-- Everything an event that keeps the queue can do to it. -/
theorem effect_fifoMove (he : Effect s i t) (hk : keepsQueue s i = true) :
    FifoMove s (acceptedPush i s) t := by
  induction he with
  | stop _ => cases hk
  | start hm _ => cases hm.symm.trans ((startKeepsQueue_iff s).1 hk).1
  | startClears _ hclears _ => cases hclears.symm.trans ((startKeepsQueue_iff s).1 hk).2
  | init _ _ => cases hk
  | dealloc => cases hk
  | reset => cases hk
  | cmd w j u hd _ ih =>
    have hmove := ih (keepsQueue_of_decodeCommand hd hk)
    rw [acceptedPush_of_commandOpcode (commandOpcode_of_decodeCommand hd)] at hmove
    exact hmove
  | getSample _ hc _ => exact .sent hc
  | drain _ _ hc _ => exact .sent hc
  | tickStopped v bad hm =>
    rw [acceptedPush_tick_stopped v bad hm]
    exact .untouched ⟨rfl, rfl, rfl, rfl⟩
  | tickDropped v bad _ _ hfull =>
    rw [acceptedPush_tick_full v bad hfull]
    exact fifoMove_of_append rfl rfl rfl rfl rfl
  | tickStored v bad hm _ hroom _ =>
    rw [acceptedPush_tick_stored v bad hm hroom]
    exact .stored v bad hroom
  | setPeriod _ _ => exact fifoMove_of_append rfl rfl rfl rfl rfl
  | getPeriod => exact fifoMove_of_append rfl rfl rfl rfl rfl
  | getRange _ => exact fifoMove_of_append rfl rfl rfl rfl rfl
  | getMax => exact fifoMove_of_append rfl rfl rfl rfl rfl
  | getMin => exact fifoMove_of_append rfl rfl rfl rfl rfl
  | getBad _ => exact fifoMove_of_append rfl rfl rfl rfl rfl
  | setRange _ _ _ => exact .untouched ⟨rfl, rfl, rfl, rfl⟩
  | _ => exact fifoMove_refl s

/-! ## What follows from it -/

variable {pushed : List Sample}

theorem FifoMove.mode_eq (h : FifoMove s pushed t) : t.mode = s.mode := by
  cases h with
  | untouched hu => exact hu.mode
  | _ => rfl

theorem FifoMove.qAlloc_eq (h : FifoMove s pushed t) : t.qAlloc = s.qAlloc := by
  cases h with
  | untouched hu => exact hu.qAlloc
  | _ => rfl

/-- The FIFO law of one event: a sample moves from the front of the queue to the end of the samples sent, or
joins at the back. -/
theorem FifoMove.fifo (h : FifoMove s pushed t) (hq : s.QueueInv) :
    sentSamples t.log ++ contents t = sentSamples s.log ++ contents s ++ pushed := by
  cases h with
  | stored v bad hroom =>
    have hlog : sentSamples (storedState v bad s).log = sentSamples s.log :=
      sentSamples_append_other s.log rfl
    rw [hlog, contents_storedState v bad hroom, List.append_assoc]
  | sent hc =>
    have hlog : sentSamples (sentState s).log = sentSamples s.log ++ [readSample s s.qRd.toNat] :=
      sentSamples_append s.log _
    rw [hlog, contents_eq_cons_sentState hq hc, List.append_assoc, List.singleton_append,
      List.append_nil]
  | untouched hu => rw [hu.sent, hu.contents, List.append_nil]

/-! ## Runs -/

theorem runEvents_cons_next {is : List Instr} (h : runEvents (i :: is) s = .next t) :
    ∃ u, exec i s = .next u ∧ runEvents is u = .next t := by
  rw [runEvents] at h
  cases hexec : exec i s with
  | next u => rw [hexec] at h; exact ⟨u, rfl, h⟩
  | fault f => rw [hexec] at h; cases h
  | refused r => rw [hexec] at h; cases h

theorem acceptedPushes_cons {is : List Instr} {u : State} (h : exec i s = .next u) :
    acceptedPushes (i :: is) s = acceptedPush i s ++ acceptedPushes is u := by
  rw [acceptedPushes, h]

/-- `keepsQueue` looks at the mode and the parameters only. -/
theorem keepsQueue_congr (hm : t.mode = s.mode) (hp : t.params = s.params) (j : Instr) :
    keepsQueue t j = keepsQueue s j := by
  have hstart : startKeepsQueue t = startKeepsQueue s := by rw [startKeepsQueue, hm, hp]; rfl
  cases j with
  | startStream => exact hstart
  | cmd w => simp only [keepsQueue, hstart]
  | _ => rfl

end Sys2Proof.Proofs
end

section
/-! The memory family settled (20_memory R56, R58, R62). -/

namespace Sys2Proof.Proofs

open Sys2Proof.Machine

/-- Settles O32, by induction on the events: each does its part of the law, keeps the queue invariant and
leaves the mode and the parameters that `keepsQueue` is asked in. -/
theorem fifoOrderOverEveryRun : Obligations.FifoOrderOverEveryRun := by
  intro es
  induction es with
  | nil =>
    intro s t _ _ hrun
    cases hrun
    simp [acceptedPushes]
  | cons i is ih =>
    intro s t hq hk hrun
    obtain ⟨u, hexec, hrest⟩ := runEvents_cons_next hrun
    have he := exec_next hexec
    have hmove := effect_fifoMove he (hk i List.mem_cons_self)
    have hkeeps : ∀ j ∈ is, keepsQueue u j = true := fun j hj =>
      (keepsQueue_congr hmove.mode_eq (effect_params he) j).trans (hk j (List.mem_cons_of_mem i hj))
    calc sentSamples t.log ++ contents t
        = sentSamples u.log ++ contents u ++ acceptedPushes is u :=
          ih u t (effect_queueInv he hq) hkeeps hrest
      _ = sentSamples s.log ++ contents s ++ acceptedPush i s ++ acceptedPushes is u := by
          rw [hmove.fifo hq]
      _ = sentSamples s.log ++ contents s ++ acceptedPushes (i :: is) s := by
          rw [acceptedPushes_cons hexec, List.append_assoc _ (acceptedPush i s)]

/-- Settles O34: both summands of an index are below the capacity. -/
theorem indexArithmeticIsOneSubtraction : Obligations.IndexArithmeticIsOneSubtraction := by
  intro s h
  have hrd := s.qRd.isLt
  have hcnt := s.qCnt.isLt
  exact ⟨by omega, fun hroom => ⟨writeIndex_lt_qCap hroom, writeIndex_eq_sub_once h hroom⟩,
    nextReadIndex_eq_succ_or_zero h⟩

/-- Settles O35: a tick adds at the back of the queue alone, so the front, which either consumer hands over,
is the same after it. -/
theorem tickBeforePopKeepsTheOldest : Obligations.TickBeforePopKeepsTheOldest := by
  intro w bad i s t hq hc htick ha hi
  have he := exec_next htick
  have hmove := effect_fifoMove he rfl
  have hqt := effect_queueInv he hq
  have hcontents := effect_tick_contents he
  have hct : t.qCnt ≠ 0 := by
    intro h0
    have hlen := congrArg List.length hcontents
    rw [List.length_append, contents_length, contents_length, h0] at hlen
    bv_omega
  rw [contents_eq_cons_sentState hq hc, contents_eq_cons_sentState hqt hct] at hcontents
  have hfront : readSample t t.qRd.toNat = readSample s s.qRd.toNat := (List.cons.inj hcontents).1
  refine ⟨readSample s s.qRd.toNat, sentState s, sentState t, exec_pop hq ha hc hi,
    exec_pop hqt (hmove.qAlloc_eq.trans ha) hct
      (hi.imp_right (And.imp_right hmove.mode_eq.trans)), rfl, ?_⟩
  rw [← hfront]
  rfl

end Sys2Proof.Proofs
end

section
/-! The encoding family's layer (30_encoding): the decoder on each row of the opcode map and on each one-hot
strobe word, the encoder as opcode and payload, and a command word's effect as its decoded command's. -/

namespace Sys2Proof.Proofs

open Sys2Proof.Machine

variable {p : Params} {w : CmdWord} {i : Instr} {q : Ports} {k : Strobe}

/-! ## The rows of the opcode map (30_encoding R76 to R78) -/

theorem decodeCommand_stopStream (p : Params) (v : U32) :
    decodeCommand p (cmdWord 0x00 v) = .ok .stopStream := decodeCommand_cmdWord p 0x00 v

theorem decodeCommand_startStream (p : Params) (v : U32) :
    decodeCommand p (cmdWord 0x01 v) = .ok .startStream := decodeCommand_cmdWord p 0x01 v

theorem decodeCommand_setTimerPeriod (p : Params) (v : U32) :
    decodeCommand p (cmdWord 0x02 v) = .ok (.setTimerPeriod v) := decodeCommand_cmdWord p 0x02 v

theorem decodeCommand_getTimerPeriod (p : Params) (v : U32) :
    decodeCommand p (cmdWord 0x03 v) = .ok .getTimerPeriod := decodeCommand_cmdWord p 0x03 v

theorem decodeCommand_setRange (hp : p.hasRange = true) (v : U32) :
    decodeCommand p (cmdWord 0x04 v) = .ok (.setRange v) :=
  (decodeCommand_cmdWord p 0x04 v).trans (if_pos hp)

theorem decodeCommand_getRange (hp : p.hasRange = true) (v : U32) :
    decodeCommand p (cmdWord 0x05 v) = .ok .getRange :=
  (decodeCommand_cmdWord p 0x05 v).trans (if_pos hp)

theorem decodeCommand_getSample (p : Params) (v : U32) :
    decodeCommand p (cmdWord 0x06 v) = .ok .getSample := decodeCommand_cmdWord p 0x06 v

theorem decodeCommand_getMaxTimerPeriod (p : Params) (v : U32) :
    decodeCommand p (cmdWord 0x07 v) = .ok .getMaxTimerPeriod := decodeCommand_cmdWord p 0x07 v

theorem decodeCommand_getMinTimerPeriod (p : Params) (v : U32) :
    decodeCommand p (cmdWord 0x08 v) = .ok .getMinTimerPeriod := decodeCommand_cmdWord p 0x08 v

theorem decodeCommand_getBadSampleCount (hp : p.hasBadSampleCount = true) (v : U32) :
    decodeCommand p (cmdWord 0x09 v) = .ok .getBadSampleCount :=
  (decodeCommand_cmdWord p 0x09 v).trans (if_pos hp)

theorem decodeCommand_setRange_absent (hp : p.hasRange = false) (v : U32) :
    decodeCommand p (cmdWord 0x04 v) = .error (.unrecognised 0x04) :=
  (decodeCommand_cmdWord p 0x04 v).trans (if_neg (Bool.eq_false_iff.1 hp))

theorem decodeCommand_getRange_absent (hp : p.hasRange = false) (v : U32) :
    decodeCommand p (cmdWord 0x05 v) = .error (.unrecognised 0x05) :=
  (decodeCommand_cmdWord p 0x05 v).trans (if_neg (Bool.eq_false_iff.1 hp))

theorem decodeCommand_getBadSampleCount_absent (hp : p.hasBadSampleCount = false) (v : U32) :
    decodeCommand p (cmdWord 0x09 v) = .error (.unrecognised 0x09) :=
  (decodeCommand_cmdWord p 0x09 v).trans (if_neg (Bool.eq_false_iff.1 hp))

/-- No opcode above the map's last row names a command (30_encoding R77). -/
theorem decodeCommand_unrecognised {op : U8} (hop : 0x09 < op) (v : U32) :
    decodeCommand p (cmdWord op v) = .error (.unrecognised op) := by
  rw [decodeCommand_cmdWord]
  split
  case h_11 => rfl
  all_goals bv_omega

/-- The payload of every opcode but the two SET commands' is ignored (30_encoding R75). -/
theorem decodeCommand_payload_ignored {op : U8} (h2 : op ≠ 0x02) (h4 : op ≠ 0x04) (v v' : U32) :
    decodeCommand p (cmdWord op v) = decodeCommand p (cmdWord op v') := by
  rw [decodeCommand_cmdWord, decodeCommand_cmdWord]
  split
  case h_3 hop => exact absurd (BitVec.eq_of_toNat_eq hop) h2
  case h_5 hop => exact absurd (BitVec.eq_of_toNat_eq hop) h4
  all_goals simp only [*]

/-! ## Words and their fields (30_encoding R70) -/

/-- A word is its opcode and its payload. -/
theorem cmdWord_fields (w : CmdWord) : cmdWord (opcodeOf w) (payloadOf w) = w :=
  BitVec.extractLsb'_append_extractLsb' (w := 8) (len := 32) (x := w)

/-- The operand that a command's assembled word carries; 0 where it has none (30_encoding R75, R80). -/
def commandPayload (i : Instr) : U32 :=
  match i with
  | .setTimerPeriod v | .setRange v => v
  | _ => 0

theorem encode_command {op : U8} (h : commandOpcode i = some op) :
    encode i = .cmd40 (cmdWord op (commandPayload i)) := by
  cases i <;> cases h <;> rfl

/-! ## What a decoded command is -/

/-- A command that decodes exists in the configuration: a gated row answers only with its feature
(30_encoding R78). -/
theorem wellFormed_of_decodeCommand (h : decodeCommand p w = .ok i) : i.wellFormed p = true := by
  have feature : ∀ {b : Bool} {j : Instr} {e : DecodeError},
      (if b then Except.ok j else .error e) = Except.ok i → b = true ∧ j = i := by
    intro b j e hb
    cases b <;> cases hb
    exact ⟨rfl, rfl⟩
  simp only [decodeCommand] at h
  split at h
  case h_5 | h_6 | h_10 => obtain ⟨hb, rfl⟩ := feature h; exact hb
  all_goals cases h <;> rfl

/-- The two SET commands keep the word's payload, every other command has none. -/
theorem commandPayload_of_decodeCommand (h : decodeCommand p w = .ok i) :
    commandPayload i = payloadOf w ∨
      (commandPayload i = 0 ∧ opcodeOf w ≠ 0x02 ∧ opcodeOf w ≠ 0x04) := by
  have hop := commandOpcode_of_decodeCommand h
  have hwf := wellFormed_of_decodeCommand h
  rw [← cmdWord_fields w] at h
  cases i with
  | setTimerPeriod v =>
    rw [← Option.some.inj hop, decodeCommand_setTimerPeriod] at h
    cases h
    exact .inl rfl
  | setRange v =>
    rw [← Option.some.inj hop, decodeCommand_setRange hwf] at h
    cases h
    exact .inl rfl
  | cmd _ | tick _ _ | drain | init _ | dealloc | reset => cases hop
  | _ =>
    rw [← Option.some.inj hop]
    exact .inr ⟨rfl, by decide, by decide⟩

/-! ## What a command word does (42_host_commands R141) -/

/-- The outcome of a decoding: its command's, or that of a word that is ignored (R140). -/
def execDecoded (r : Except DecodeError Instr) (s : State) : Host.Outcome State Fault Refusal :=
  match r with
  | .ok i => exec i s
  | .error _ => ignoreCommand s

/-- The dispatch of CMD is the decoder's. -/
theorem exec_cmd (w : CmdWord) (s : State) :
    exec (.cmd w) s = execDecoded (decodeCommand s.params w) s := by
  show execCmd w s = _
  unfold execCmd
  split <;> rename_i hop <;> simp only [decodeCommand, hop]
  case h_5 | h_6 | h_10 => split <;> rfl
  all_goals rfl

theorem exec_cmd_decoded {s : State} (h : decodeCommand s.params w = .ok i) :
    exec (.cmd w) s = exec i s := by rw [exec_cmd, h]; rfl

theorem exec_cmd_ignored {s : State} {e : DecodeError} (h : decodeCommand s.params w = .error e) :
    exec (.cmd w) s = .next s := by rw [exec_cmd, h]; rfl

/-! ## The strobes of a snapshot (30_encoding R71) -/

theorem mem_strobesOf {ev : StrobeWord} : k ∈ strobesOf ev ↔ Strobe.isSet ev k = true := by
  have hk : k ∈ Strobe.serviceOrder := by cases k <;> decide
  rw [strobesOf, List.mem_filter, and_iff_right hk]

/-- The hardware's order puts the tick first. -/
theorem strobesOf_eq_tick_first (ev : StrobeWord) : strobesOf ev =
    if Strobe.isSet ev .tickIrq then
      .tickIrq :: (strobesOf ev).filter (fun k => decide (k ≠ .tickIrq))
    else (strobesOf ev).filter (fun k => decide (k ≠ .tickIrq)) := by
  revert ev; decide

theorem isSet_oneHot (k j : Strobe) : Strobe.isSet k.oneHot j = true ↔ j = k := by
  cases k <;> cases j <;> decide

theorem isSet_or (a b : StrobeWord) (j : Strobe) :
    Strobe.isSet (a ||| b) j = (Strobe.isSet a j || Strobe.isSet b j) := BitVec.getLsbD_or

/-- In the word of a list exactly the strobes of the list are asserted. -/
theorem isSet_strobeWord {ks : List Strobe} {j : Strobe} :
    Strobe.isSet (strobeWord ks) j = true ↔ j ∈ ks := by
  induction ks with
  | nil => simp [strobeWord, Strobe.isSet]
  | cons k ks ih =>
    have hcons : strobeWord (k :: ks) = k.oneHot ||| strobeWord ks := rfl
    rw [hcons, isSet_or, Bool.or_eq_true, isSet_oneHot, ih, List.mem_cons]

/-! ## The event of a snapshot -/

theorem decodePorts_oneHot (hrst : q.rst = false) (hev : q.ev = k.oneHot) :
    decodePorts q = .ok (eventOf k q) := by
  simp [decodePorts, hrst, hev]

/-- Only `rst` and a lone strobe are decoded. -/
theorem decodePorts_ok (h : decodePorts q = .ok i) :
    (q.rst = true ∧ i = .reset) ∨
      (q.rst = false ∧ ∃ k, strobesOf q.ev = [k] ∧ i = eventOf k q) := by
  unfold decodePorts at h
  split at h
  · next hrst => cases h; exact .inl ⟨hrst, rfl⟩
  · next hrst =>
    split at h
    · cases h
    · next k hk => cases h; exact .inr ⟨Bool.eq_false_iff.2 hrst, k, hk, rfl⟩
    · cases h

theorem wellFormed_eventOf (k : Strobe) (q : Ports) : (eventOf k q).wellFormed p = true := by
  cases k <;> rfl

/-- No event is gated by a feature. -/
theorem wellFormed_of_decodePorts (h : decodePorts q = .ok i) : i.wellFormed p = true := by
  rcases decodePorts_ok h with ⟨_, rfl⟩ | ⟨_, k, _, rfl⟩
  · rfl
  · exact wellFormed_eventOf k q

/-! ## The servable strobes (60_exceptions R188) -/

variable {s : State}

theorem mem_foregroundStrobes {j : Strobe} :
    j ∈ foregroundStrobes q ↔ Strobe.isSet q.ev j = true ∧ j ≠ .tickIrq := by
  rw [foregroundStrobes, List.mem_filter, mem_strobesOf, decide_eq_true_iff]

theorem tickIrq_mem_serviceable :
    .tickIrq ∈ serviceable s q ↔ tickWaiting s q = true ∧ s.irqMask = false := by
  have hfg : .tickIrq ∉ foregroundStrobes q := fun h => (mem_foregroundStrobes.1 h).2 rfl
  unfold serviceable
  cases tickWaiting s q <;> cases s.irqMask <;> simp [hfg]

theorem mem_serviceable_of_ne_tickIrq {j : Strobe} (hj : j ≠ .tickIrq) :
    j ∈ serviceable s q ↔ Strobe.isSet q.ev j = true := by
  have hfg : j ∈ foregroundStrobes q ↔ Strobe.isSet q.ev j = true :=
    mem_foregroundStrobes.trans (and_iff_left hj)
  unfold serviceable
  split
  · rw [List.mem_cons, or_iff_right hj, hfg]
  · exact hfg

/-- With no tick held and none masked the servable strobes are the asserted ones. -/
theorem serviceable_eq_strobesOf (hmask : s.irqMask = false) (hpending : s.irqPending = false) :
    serviceable s q = strobesOf q.ev := by
  rw [strobesOf_eq_tick_first q.ev]
  simp [serviceable, tickWaiting, hmask, hpending, foregroundStrobes]

/-- With no tick held, none is left over when a lone strobe is served. -/
theorem no_tick_left (hpending : s.irqPending = false) (hk : strobesOf q.ev = [k]) :
    (tickWaiting s q && decide (k ≠ .tickIrq)) = false := by
  have htick : tickWaiting s q = true ↔ .tickIrq = k := by
    rw [tickWaiting, hpending, Bool.or_false, ← mem_strobesOf, hk, List.mem_singleton]
  rw [Bool.and_eq_false_imp, htick]
  rintro rfl
  rfl

theorem chooseStrobe_mem (n : Nat) (k : Strobe) (ks : List Strobe) : chooseStrobe n k ks ∈ k :: ks := by
  have hlt := Nat.mod_lt (Config.strobeChoice n) (List.length_pos_of_ne_nil (List.cons_ne_nil k ks))
  rw [chooseStrobe, List.getD_eq_getElem _ _ hlt]
  exact List.getElem_mem hlt

/-- What is left after `k` was served is every other servable strobe, a tick as a pending interrupt. -/
theorem mem_serviceable_left {u : State} {left : List Strobe} {j : Strobe}
    (hmask : u.irqMask = s.irqMask)
    (hpending : u.irqPending = (tickWaiting s q && decide (k ≠ .tickIrq)))
    (hleft : ∀ j, j ∈ left ↔ j ∈ foregroundStrobes q ∧ j ≠ k) :
    j ∈ serviceable u { q with ev := strobeWord left } ↔ j ∈ serviceable s q ∧ j ≠ k := by
  by_cases hj : j = .tickIrq
  · subst hj
    have hgone : Strobe.isSet (strobeWord left) .tickIrq = false := by
      rw [Bool.eq_false_iff, ne_eq, isSet_strobeWord, hleft, mem_foregroundStrobes]
      exact fun h => h.1.2 rfl
    have hwaiting : tickWaiting u { q with ev := strobeWord left } = true ↔
        tickWaiting s q = true ∧ .tickIrq ≠ k := by
      rw [tickWaiting, hgone, Bool.false_or, hpending, Bool.and_eq_true_iff, decide_eq_true_iff,
        ne_comm]
    rw [tickIrq_mem_serviceable, tickIrq_mem_serviceable, hmask, hwaiting, and_right_comm]
  · rw [mem_serviceable_of_ne_tickIrq hj, mem_serviceable_of_ne_tickIrq hj, isSet_strobeWord, hleft,
      mem_foregroundStrobes, and_iff_left hj]

end Sys2Proof.Proofs
end

section
/-! The encoding family settled (30_encoding). -/

namespace Sys2Proof.Proofs

open Sys2Proof.Machine

/-- Settles O1: a command's assembled word stands on its row of the opcode map, an event's snapshot has its
strobe alone. -/
theorem decodeReadsBackEveryInstruction : Obligations.DecodeReadsBackEveryInstruction := by
  intro p i hwf
  cases i with
  | stopStream => exact decodeCommand_stopStream p 0
  | startStream => exact decodeCommand_startStream p 0
  | setTimerPeriod v => exact decodeCommand_setTimerPeriod p v
  | getTimerPeriod => exact decodeCommand_getTimerPeriod p 0
  | setRange v => exact decodeCommand_setRange hwf v
  | getRange => exact decodeCommand_getRange hwf 0
  | getSample => exact decodeCommand_getSample p 0
  | getMaxTimerPeriod => exact decodeCommand_getMaxTimerPeriod p 0
  | getMinTimerPeriod => exact decodeCommand_getMinTimerPeriod p 0
  | getBadSampleCount => exact decodeCommand_getBadSampleCount hwf 0
  | cmd w => exact decodePorts_oneHot (k := .cmdValid) rfl rfl
  | tick v bad => exact decodePorts_oneHot (k := .tickIrq) rfl rfl
  | drain => exact decodePorts_oneHot (k := .drainReq) rfl rfl
  | init c => exact decodePorts_oneHot (k := .initStb) rfl rfl
  | dealloc => exact decodePorts_oneHot (k := .deallocStb) rfl rfl
  | reset => rfl

/-- Settles O2: a decoded command has the word's opcode, so its assembled word is that opcode with the
command's own payload. -/
theorem decodedInstructionIsWellFormed : Obligations.DecodedInstructionIsWellFormed := by
  intro p e i h
  cases e with
  | cmd40 w =>
    refine ⟨wellFormed_of_decodeCommand h, fun w' hw' => ?_⟩
    cases hw'
    refine ⟨_, encode_command (commandOpcode_of_decodeCommand h), opcodeOf_cmdWord _ _, ?_⟩
    rw [payloadOf_cmdWord]
    exact commandPayload_of_decodeCommand h
  | ports q => exact ⟨wellFormed_of_decodePorts h, nofun⟩

/-- Settles O3, row by row of the opcode map and strobe by strobe. -/
theorem everyWordDecodesByTheOpcodeMap : Obligations.EveryWordDecodesByTheOpcodeMap := by
  refine ⟨fun p v => ⟨decodeCommand_stopStream p v, decodeCommand_startStream p v,
      decodeCommand_setTimerPeriod p v, decodeCommand_getTimerPeriod p v,
      fun hp => decodeCommand_setRange hp v, fun hp => decodeCommand_getRange hp v,
      decodeCommand_getSample p v, decodeCommand_getMaxTimerPeriod p v,
      decodeCommand_getMinTimerPeriod p v, fun hp => decodeCommand_getBadSampleCount hp v,
      fun hp => decodeCommand_setRange_absent hp v, fun hp => decodeCommand_getRange_absent hp v,
      fun hp => decodeCommand_getBadSampleCount_absent hp v,
      fun op hop => decodeCommand_unrecognised hop v⟩,
    fun w => (cmdWord_fields w).symm, fun q hrst => ?_⟩
  have selects : ∀ k : Strobe, q.ev = k.oneHot → decodePorts q = .ok (eventOf k q) :=
    fun k => decodePorts_oneHot hrst
  exact ⟨selects .cmdValid, selects .tickIrq, selects .drainReq, selects .initStb, selects .deallocStb⟩

/-- Settles O4: the dispatch of CMD sees a word through the decoder alone. -/
theorem payloadIgnoredOutsideSetCommands : Obligations.PayloadIgnoredOutsideSetCommands := by
  intro op v w h2 h4
  refine ⟨fun p => decodeCommand_payload_ignored h2 h4 v w, fun s => ?_⟩
  rw [exec_cmd, exec_cmd, decodeCommand_payload_ignored h2 h4 v w]

/-- Settles O8: the strobe served is any of the servable ones, and the snapshot that stays at the head
asserts the others. -/
theorem simultaneousStrobesServedOneByOne : Obligations.SimultaneousStrobesServedOneByOne := by
  intro s q rest hLegal hInbox hrst hlen
  match hk : serviceable s q, hlen with
  | k :: k' :: ks, _ =>
    refine ⟨_, chooseStrobe_mem s.choices k (k' :: ks), _, _,
      step_of_fetch_some hLegal (fetch_several_serviceable hInbox hrst hk), rfl, rfl, fun j => ?_⟩
    rw [← hk]
    exact mem_serviceable_left rfl rfl (fun j => by rw [List.mem_filter, decide_eq_true_iff])

/-- Settles O50, part by part of each word. -/
theorem outputWordLayout : Obligations.OutputWordLayout := by
  refine ⟨fun v => ⟨_, rfl, ?kind, ?z, ?y, ?x⟩, fun v => ⟨_, rfl, ?valueKind, ?zero, ?value⟩,
    fun v => ⟨_, rfl, BitVec.extractLsb'_append_eq_left, BitVec.extractLsb'_append_eq_right⟩,
    fun v => ⟨_, rfl, BitVec.extractLsb'_append_eq_left, BitVec.extractLsb'_append_eq_right⟩⟩
  case kind =>
    exact (BitVec.extractLsb'_append_eq_of_le (w := 16) (by decide)).trans
      ((BitVec.extractLsb'_append_eq_of_le (w := 16) (by decide)).trans
      BitVec.extractLsb'_append_eq_left)
  case z =>
    exact (BitVec.extractLsb'_append_eq_of_le (w := 16) (by decide)).trans
      ((BitVec.extractLsb'_append_eq_of_le (w := 16) (by decide)).trans
      BitVec.extractLsb'_append_eq_right)
  case y =>
    exact (BitVec.extractLsb'_append_eq_of_le (w := 16) (by decide)).trans
      BitVec.extractLsb'_append_eq_right
  case x => exact BitVec.extractLsb'_append_eq_right
  case valueKind =>
    exact (BitVec.extractLsb'_append_eq_of_le (w := 32) (by decide)).trans
      BitVec.extractLsb'_append_eq_left
  case zero =>
    exact (BitVec.extractLsb'_append_eq_of_le (w := 32) (by decide)).trans
      BitVec.extractLsb'_append_eq_right
  case value => exact BitVec.extractLsb'_append_eq_right

/-- The opcode table's word of an instruction's encoding decodes to it (log 25). -/
theorem decodeTableWord_encoded {nbits w : Nat} {i : Instr} (hwf : i.wellFormed Params.vectors = true)
    (hw : tableWord nbits w = some (encode i)) : decodeTableWord nbits w = some i := by
  simp only [decodeTableWord, hw, decodeReadsBackEveryInstruction Params.vectors i hwf]

/-- Settles O5: each word but two is the table's word of the instruction's own encoding, which the decoder
reads back; GET_SAMPLE with a payload and the unrecognised opcode are no encoding. -/
theorem writtenOutWordsDecode : Obligations.WrittenOutWordsDecode :=
  ⟨decodeTableWord_encoded rfl rfl, decodeTableWord_encoded rfl rfl, decodeTableWord_encoded rfl rfl,
    by decide, by decide, decodeTableWord_encoded rfl rfl, decodeTableWord_encoded rfl rfl,
    decodeTableWord_encoded rfl rfl, decodeTableWord_encoded rfl rfl, decodeTableWord_encoded rfl rfl,
    decodeTableWord_encoded rfl rfl⟩

/-- Settles O6: the snapshot's one strobe is the one servable strobe and no tick is left pending. -/
theorem stepRunsTheDecodedInstruction : Obligations.StepRunsTheDecodedInstruction := by
  intro s q rest i hLegal hInbox hMask hPending hDecode
  have hstep : step s = exec i { s with inbox := rest } := by
    rcases decodePorts_ok hDecode with ⟨hrst, rfl⟩ | ⟨hrst, k, hk, rfl⟩
    · exact step_of_fetch_some hLegal (fetch_reset hInbox hrst)
    · have hservable : serviceable s q = [k] := (serviceable_eq_strobesOf hMask hPending).trans hk
      have hfetch := fetch_one_serviceable hInbox hrst hservable
      rw [no_tick_left hPending hk, ← hPending] at hfetch
      exact step_of_fetch_some hLegal hfetch
  refine ⟨hstep, ?_, ?_⟩
  · rintro w j rfl hw
    exact hstep.trans (exec_cmd_decoded hw)
  · rintro w e rfl hw
    exact hstep.trans (exec_cmd_ignored hw)

/-- Settles O7: `rst` is looked at before the strobes. -/
theorem resetInputOverridesEveryStrobe : Obligations.ResetInputOverridesEveryStrobe :=
  fun _ _ _ hLegal hInbox hrst => step_of_fetch_some hLegal (fetch_reset hInbox hrst)

end Sys2Proof.Proofs
end

section
/-! The queue of a block in Streaming as a list bounded by its capacity (40_queue_primitives R91, R92, R96):
one tick, one DRAIN, and runs of either. -/

namespace Sys2Proof.Proofs

open Sys2Proof.Machine

variable {s t u : State} {i : Instr}

/-- An allocated queue with its pointers in bounds, in a block that is Streaming. -/
structure StreamingQueue (s : State) : Prop where
  queue : s.QueueInv
  alloc : s.qAlloc = true
  streaming : s.mode = .streaming

theorem StreamingQueue.of_effect (h : StreamingQueue s) (he : Effect s i t)
    (hk : keepsQueue s i = true) : StreamingQueue t where
  queue := effect_queueInv he h.queue
  alloc := (effect_fifoMove he hk).qAlloc_eq.trans h.alloc
  streaming := (effect_fifoMove he hk).mode_eq.trans h.streaming

theorem runEvents_cons (is : List Instr) (h : exec i s = .next u) :
    runEvents (i :: is) s = runEvents is u := by
  rw [runEvents, h]

theorem contents_length_le_qCap (h : s.QueueInv) : (contents s).length ≤ s.qCap.toNat :=
  (contents_length s).trans_le h.cnt_le

theorem contents_eq_nil (hc : s.qCnt = 0) : contents s = [] :=
  List.eq_nil_of_length_eq_zero (by rw [contents_length, hc]; rfl)

/-! ## Ticks (43_events R160) -/

/-- On an allocated queue a tick completes: a write index below the capacity exists. -/
theorem exec_tick_completes (v : Sample) (bad : Bool) (h : s.QueueInv) (ha : s.qAlloc = true) :
    ∃ t, exec (.tick v bad) s = .next t := by
  cases hexec : exec (.tick v bad) s with
  | next t => exact ⟨t, rfl⟩
  | refused r => exact absurd hexec (exec_not_refused _ s r)
  | fault f =>
    rcases exec_fault_direct (i := .tick v bad) nofun hexec with
      ⟨hu, _⟩ | ⟨_, hinit, _⟩ | ⟨_, hroom, hidx, _⟩ | ⟨hpop | hpop, _⟩
    · cases ha.symm.trans hu
    · cases hinit
    · exact absurd ((writeIndex_lt_qCap hroom).trans_le h.cap_le) (Nat.not_lt.2 hidx)
    · cases hpop
    · cases hpop

theorem acceptedPush_tick_streaming (v : Sample) (bad : Bool) (hm : s.mode = .streaming) :
    acceptedPush (.tick v bad) s = if s.qCnt < s.qCap then [v] else [] := by
  by_cases hroom : s.qCnt < s.qCap
  · rw [acceptedPush_tick_stored v bad hm hroom, if_pos hroom]
  · rw [acceptedPush_tick_full v bad (BitVec.not_lt.1 hroom), if_neg hroom]

/-- A tick sends no sample and leaves the capacity. -/
theorem effect_tick_frame {v : Sample} {bad : Bool} (he : Effect s (.tick v bad) t) :
    t.qCap = s.qCap ∧ sentSamples t.log = sentSamples s.log := by
  cases he with
  | tickStopped _ _ _ => exact ⟨rfl, rfl⟩
  | tickDropped _ _ _ _ _ => exact ⟨rfl, sentSamples_append_other s.log rfl⟩
  | tickStored _ _ _ _ _ _ => exact ⟨rfl, sentSamples_append_other s.log rfl⟩

/-- A tick appends its sample and what exceeds the capacity is dropped (40_queue_primitives R91). -/
theorem effect_tick_contents_take {v : Sample} {bad : Bool} (h : StreamingQueue s)
    (he : Effect s (.tick v bad) t) : contents t = (contents s ++ [v]).take s.qCap.toNat := by
  rw [effect_tick_contents he, acceptedPush_tick_streaming v bad h.streaming]
  split <;> rename_i hroom
  · refine (List.take_of_length_le ?_).symm
    rw [List.length_append, contents_length]
    exact hroom
  · have hfull : (contents s).length = s.qCap.toNat :=
      (contents_length_le_qCap h.queue).antisymm
        ((Nat.not_lt.1 hroom).trans_eq (contents_length s).symm)
    rw [List.append_nil, ← hfull, List.take_left]

/-- Cutting to `n` before more is appended does not change the first `n`. -/
theorem take_take_append {α : Type} (n : Nat) (l m : List α) :
    (l.take n ++ m).take n = (l ++ m).take n := by
  have hlen : n - min n l.length = n - l.length := by omega
  rw [List.take_append, List.take_append, List.take_take, min_self, List.length_take, hlen]

/-- Ticks with any samples and verdicts complete, send nothing, and queue what fits of them. -/
theorem runEvents_ticks (answers : List (Sample × Bool)) (h : StreamingQueue s) :
    ∃ t, runEvents (answers.map (fun a => .tick a.1 a.2)) s = .next t ∧ StreamingQueue t ∧
      sentSamples t.log = sentSamples s.log ∧
      contents t = (contents s ++ answers.map Prod.fst).take s.qCap.toNat := by
  induction answers generalizing s with
  | nil =>
    refine ⟨s, rfl, h, rfl, ?_⟩
    rw [List.map_nil, List.append_nil, List.take_of_length_le (contents_length_le_qCap h.queue)]
  | cons a as ih =>
    obtain ⟨u, hexec⟩ := exec_tick_completes a.1 a.2 h.queue h.alloc
    have he := exec_next hexec
    obtain ⟨hcap, hsent⟩ := effect_tick_frame he
    obtain ⟨t, hrun, ht, hsent', hcontents⟩ := ih (h.of_effect he rfl)
    refine ⟨t, (runEvents_cons _ hexec).trans hrun, ht, hsent'.trans hsent, ?_⟩
    rw [hcontents, hcap, effect_tick_contents_take h he, take_take_append, List.append_assoc]
    rfl

/-! ## Drains (43_events R162) -/

/-- A DRAIN moves the first queued sample, if there is one, behind the samples sent. -/
theorem exec_drain_moves_first (h : StreamingQueue s) :
    ∃ t, exec .drain s = .next t ∧
      sentSamples t.log = sentSamples s.log ++ (contents s).take 1 ∧
      contents t = (contents s).drop 1 := by
  by_cases hc : s.qCnt = 0
  · have hexec : exec .drain s = .next s := by
      simp only [exec, execDrain, h.streaming, sendOldest_empty s h.alloc hc, ofPrimitive]
    exact ⟨s, hexec, by simp [contents_eq_nil hc], by simp [contents_eq_nil hc]⟩
  · refine ⟨sentState s, exec_pop h.queue h.alloc hc (.inr ⟨rfl, h.streaming⟩), ?_, ?_⟩
    · rw [contents_eq_cons_sentState h.queue hc]
      exact sentSamples_append s.log _
    · rw [contents_eq_cons_sentState h.queue hc]
      rfl

/-- `n` DRAINs complete and send the first `n` queued samples in order. -/
theorem runEvents_drains (n : Nat) (h : StreamingQueue s) :
    ∃ t, runEvents (List.replicate n .drain) s = .next t ∧
      sentSamples t.log = sentSamples s.log ++ (contents s).take n ∧
      contents t = (contents s).drop n := by
  induction n generalizing s with
  | zero => exact ⟨s, rfl, by rw [List.take_zero, List.append_nil], rfl⟩
  | succ n ih =>
    obtain ⟨u, hexec, hsent, hcontents⟩ := exec_drain_moves_first h
    obtain ⟨t, hrun, hsent', hcontents'⟩ := ih (h.of_effect (exec_next hexec) rfl)
    refine ⟨t, (runEvents_cons _ hexec).trans hrun, ?_, ?_⟩
    · rw [hsent', hsent, hcontents, List.append_assoc, ← List.take_add, Nat.add_comm 1 n]
    · rw [hcontents', hcontents, List.drop_drop, Nat.add_comm 1 n]

end Sys2Proof.Proofs
end

section
/-! The queue primitives' family settled (40_queue_primitives). -/

namespace Sys2Proof.Proofs

open Sys2Proof.Machine

/-- Settles O30. -/
theorem tickAppendsToTheContents : Obligations.TickAppendsToTheContents := by
  intro v bad s t _ hm hexec
  rw [effect_tick_contents (exec_next hexec), acceptedPush_tick_streaming v bad hm]

/-- Settles O31: both consumers answer `sentState`. -/
theorem popTakesTheFirstOfTheContents : Obligations.PopTakesTheFirstOfTheContents :=
  fun _ s hq ha hc hi =>
    ⟨readSample s s.qRd.toNat, sentState s, exec_pop hq ha hc hi, contents_eq_cons_sentState hq hc, rfl⟩

/-- Settles O33: the ticks queue the first `q_cap` samples, of which there are no more than DRAINs. -/
theorem pushesThenDrainsReturnTheFirstOnes : Obligations.PushesThenDrainsReturnTheFirstOnes := by
  intro answers s hq ha hm hc
  obtain ⟨t, hticks, ht, hsent, hcontents⟩ := runEvents_ticks answers ⟨hq, ha, hm⟩
  obtain ⟨u, hdrains, hsent', hcontents'⟩ := runEvents_drains answers.length ht
  rw [contents_eq_nil hc, List.nil_append] at hcontents
  have hlen : (contents t).length ≤ answers.length := by
    rw [hcontents, List.length_take, List.length_map]
    exact Nat.min_le_right _ _
  refine ⟨t, u, hticks, hcontents, hdrains, ?_, ?_⟩
  · rw [hsent', hsent, List.take_of_length_le hlen, hcontents]
  · rw [hcontents', List.drop_of_length_le hlen]

end Sys2Proof.Proofs
end

section
/-! DeviceState's primitives (41_devicestate_primitives): the mode machine's one transition function, and what
a tick's sample can reach. -/

namespace Sys2Proof.Proofs

open Sys2Proof.Machine

variable {s t u : State} {i : Instr} {p : Params} {w : CmdWord}

/-! ## The mode machine (41_devicestate_primitives R114) -/

/-- The mode that the command of an opcode leaves. -/
def modeAfterOpcode (op : U8) (m : Mode) : Mode :=
  if op = 0x00 then .stopped else if op = 0x01 then .streaming else m

/-- The mode that an instruction leaves when it completes; `effect_mode` ties it to the model. -/
def modeAfter (i : Instr) (m : Mode) : Mode :=
  match i with
  | .startStream => .streaming
  | .stopStream | .reset => .stopped
  | .cmd w => modeAfterOpcode (opcodeOf w) m
  | _ => m

theorem modeAfterOpcode_other {op : U8} (h0 : op ≠ 0x00) (h1 : op ≠ 0x01) (m : Mode) :
    modeAfterOpcode op m = m := by rw [modeAfterOpcode, if_neg h0, if_neg h1]

/-- A host command leaves the mode that its opcode says. -/
theorem modeAfter_of_commandOpcode {op : U8} (h : commandOpcode i = some op) (m : Mode) :
    modeAfter i m = modeAfterOpcode op m := by
  cases i with
  | cmd _ | tick _ _ | drain | init _ | dealloc | reset => cases h
  | _ => cases h; rfl

/-- A command word leaves the mode that the command it decodes to leaves. -/
theorem modeAfter_of_decodeCommand (h : decodeCommand p w = .ok i) (m : Mode) :
    modeAfter i m = modeAfter (.cmd w) m :=
  modeAfter_of_commandOpcode (commandOpcode_of_decodeCommand h) m

/-- No parameters make STOP_STREAM or START_STREAM unrecognised (30_encoding R78). -/
theorem opcodeOf_of_decodeCommand_error {e : DecodeError} (h : decodeCommand p w = .error e) :
    opcodeOf w ≠ 0x00 ∧ opcodeOf w ≠ 0x01 := by
  rw [← cmdWord_fields w] at h
  constructor
  · intro hop
    rw [hop, decodeCommand_stopStream] at h
    cases h
  · intro hop
    rw [hop, decodeCommand_startStream] at h
    cases h

/-- The one transition function of the mode. A START_STREAM in Streaming leaves the mode it finds, which is
the one that it leaves from Stopped. -/
theorem effect_mode (he : Effect s i t) : t.mode = modeAfter i s.mode := by
  induction he with
  | startAgain hm _ => exact hm
  | startClears hm _ _ => exact hm
  | cmd w j u hd _ ih => exact ih.trans (modeAfter_of_decodeCommand hd s.mode)
  | cmdIgnored w e hd =>
    obtain ⟨hstop, hstart⟩ := opcodeOf_of_decodeCommand_error hd
    exact (modeAfterOpcode_other hstop hstart s.mode).symm
  | _ => rfl

/-! ## What a tick's sample reaches (41_devicestate_primitives R116, 43_events R160) -/

/-- `u` and `t` agree on every field but the channel memories. -/
def AgreeOffMemories (u t : State) : Prop := u = { t with memX := u.memX, memY := u.memY, memZ := u.memZ }

theorem agreeOffMemories_returnFromInterrupt (h : AgreeOffMemories u t) :
    AgreeOffMemories (returnFromInterrupt u) (returnFromInterrupt t) :=
  congrArg returnFromInterrupt h

/-- Whether `push` succeeds and what it does outside the memories is the same for every sample: the bounds and
the write index are the queue's. -/
theorem queuePush_any_sample {v : Sample} (v' : Sample) (h : queuePush v s = .ok t) :
    ∃ u, queuePush v' s = .ok u ∧ AgreeOffMemories u t := by
  obtain ⟨ha, ⟨hfull, rfl⟩ | ⟨hroom, hidx, rfl⟩⟩ := queuePush_ok h
  · exact ⟨_, queuePush_full v' s ha hfull, rfl⟩
  · exact ⟨_, queuePush_room v' s ha hroom hidx, rfl⟩

theorem exec_tick_stopped (v : Sample) (bad : Bool) (hm : s.mode = .stopped) :
    exec (.tick v bad) s = .next (returnFromInterrupt (takeInterrupt s)) := by
  simp only [exec, execTick, takeInterrupt_mode, hm]

/-- A tick in Streaming completes exactly when its one push does. -/
theorem exec_tick_streaming_next (v : Sample) (bad : Bool) (hm : s.mode = .streaming) :
    exec (.tick v bad) s = .next t ↔
      ∃ u, queuePush v (tickStart bad s) = .ok u ∧ returnFromInterrupt u = t := by
  rw [show exec (.tick v bad) s = _ from execTick_streaming v bad s hm]
  cases queuePush v (tickStart bad s) <;> simp [ofPrimitive, Except.map]

end Sys2Proof.Proofs
end

section
/-! The DeviceState primitives' family settled (41_devicestate_primitives). -/

namespace Sys2Proof.Proofs

open Sys2Proof.Machine

/-- Settles O42: the three clauses are the branches of `modeAfter`. -/
theorem modeMachineTransitions : Obligations.ModeMachineTransitions := by
  refine ⟨fun _ _ => rfl, fun i s t hexec => ?_⟩
  rw [effect_mode (exec_next hexec)]
  refine ⟨?_, ?_, ?_⟩
  · rintro (rfl | ⟨w, rfl, hop⟩)
    · rfl
    · rw [modeAfter, hop]; rfl
  · rintro (rfl | ⟨w, rfl, hop⟩ | rfl)
    · rfl
    · rw [modeAfter, hop]; rfl
    · rfl
  · rintro ⟨hstart, hstop, hreset, hcmd⟩
    cases i with
    | startStream => exact absurd rfl hstart
    | stopStream => exact absurd rfl hstop
    | reset => exact absurd rfl hreset
    | cmd w =>
      obtain ⟨h0, h1⟩ := hcmd w rfl
      exact modeAfterOpcode_other h0 h1 s.mode
    | _ => rfl

/-- Settles O48: in Stopped a tick does not look at its sample; in Streaming it only pushes it. -/
theorem sampleValuesOnlyReachTheMemories : Obligations.SampleValuesOnlyReachTheMemories := by
  intro v w bad s t hexec
  cases hm : s.mode with
  | stopped =>
    rw [exec_tick_stopped v bad hm] at hexec
    exact ⟨t, (exec_tick_stopped w bad hm).trans hexec, rfl⟩
  | streaming =>
    obtain ⟨pushed, hpush, rfl⟩ := (exec_tick_streaming_next v bad hm).1 hexec
    obtain ⟨pushed', hpush', hagree⟩ := queuePush_any_sample w hpush
    exact ⟨_, (exec_tick_streaming_next w bad hm).2 ⟨pushed', hpush', rfl⟩,
      agreeOffMemories_returnFromInterrupt hagree⟩

end Sys2Proof.Proofs
end

section
/-! The host commands' layer (42_host_commands R130 to R139): what each command answers, one equation per path
of its meaning, and that on an allocated queue every command completes. -/

namespace Sys2Proof.Proofs

open Sys2Proof.Machine

variable {s : State} {i : Instr} {v : U32}

/-! ## The stream commands (R130, R131) -/

theorem exec_stopStream_allocated (ha : s.qAlloc = true) :
    exec .stopStream s = .next { s with mode := .stopped, qRd := 0, qCnt := 0 } :=
  congrArg ofPrimitive (queueClear_allocated (setMode .stopped s) ha)

theorem exec_stopStream_unallocated (ha : s.qAlloc = false) :
    exec .stopStream s = .fault (.queueNotAllocated .clear) :=
  congrArg ofPrimitive (queueClear_unallocated (setMode .stopped s) ha)

theorem exec_startStream_stopped_allocated (hm : s.mode = .stopped) (ha : s.qAlloc = true) :
    exec .startStream s = .next { s with mode := .streaming, qRd := 0, qCnt := 0 } := by
  simp only [exec, execStartStream, hm, queueClear_allocated s ha]
  rfl

theorem exec_startStream_stopped_unallocated (hm : s.mode = .stopped) (ha : s.qAlloc = false) :
    exec .startStream s = .fault (.queueNotAllocated .clear) := by
  simp only [exec, execStartStream, hm, queueClear_unallocated s ha]

theorem exec_startStream_streaming_keeps (hm : s.mode = .streaming)
    (hclears : s.params.startClearsWhenStreaming = false) : exec .startStream s = .next s := by
  simp [exec, execStartStream, hm, hclears]

/-- A START_STREAM that finds the mode Streaming, in a block built to clear then, is one `clear`. -/
theorem exec_startStream_streaming_clears (hm : s.mode = .streaming)
    (hclears : s.params.startClearsWhenStreaming = true) :
    exec .startStream s = ofPrimitive (queueClear s) := by
  simp only [exec, execStartStream, hm, if_pos hclears]

/-! ## The setters (R132, R134; 41_devicestate_primitives R110, R112) -/

theorem setTimerPeriod_accepted (h : s.params.minTimerPeriod ≤ v ∧ v ≤ s.params.maxTimerPeriod) :
    setTimerPeriod v s =
      (true, { s with timerPeriod := v, log := s.log ++ [.tmrSetPeriod v] }) :=
  if_pos ((periodAccepted_iff s.params v).2 h)

theorem setTimerPeriod_rejected (h : ¬ (s.params.minTimerPeriod ≤ v ∧ v ≤ s.params.maxTimerPeriod)) :
    setTimerPeriod v s = (false, s) :=
  if_neg (fun hacc => h ((periodAccepted_iff s.params v).1 hacc))

/-- SET_TIMER_PERIOD in the setter's answer: its verdict is discarded. -/
theorem exec_setTimerPeriod_of_setter {b : Bool} {t : State} (h : setTimerPeriod v s = (b, t)) :
    (setTimerPeriod v s).1 = b ∧ exec (.setTimerPeriod v) s = .next t :=
  ⟨congrArg Prod.fst h, congrArg (fun r : Bool × State => Host.Outcome.next r.2) h⟩

theorem setRange_accepted (h : v = 2 ∨ v = 4 ∨ v = 8 ∨ v = 16) :
    setRange v s = (true, { s with range := rangeField v }) := if_pos ((rangeAccepted_iff v).2 h)

theorem setRange_rejected (h : ¬ (v = 2 ∨ v = 4 ∨ v = 8 ∨ v = 16)) : setRange v s = (false, s) :=
  if_neg (fun hacc => h ((rangeAccepted_iff v).1 hacc))

/-- SET_RANGE in the setter's answer: its verdict is discarded. -/
theorem exec_setRange_of_setter {b : Bool} {t : State} (hp : s.params.hasRange = true)
    (h : setRange v s = (b, t)) : (setRange v s).1 = b ∧ exec (.setRange v) s = .next t :=
  ⟨congrArg Prod.fst h, (if_pos hp).trans (congrArg (fun r : Bool × State => Host.Outcome.next r.2) h)⟩

/-! ## The getters of optional features (R135, R139) -/

theorem exec_getRange_present (hp : s.params.hasRange = true) :
    exec .getRange s = .next { s with log := s.log ++ [.respValue (s.range.zeroExtend 32)] } := if_pos hp

theorem exec_getBadSampleCount_present (hp : s.params.hasBadSampleCount = true) :
    exec .getBadSampleCount s = .next { s with log := s.log ++ [.respValue s.badSampleCount] } := if_pos hp

/-! ## GET_SAMPLE (R136) -/

theorem exec_getSample_some (ha : s.qAlloc = true) (hc : s.qCnt ≠ 0)
    (hi : s.qRd.toNat < s.params.maxCapacity) : exec .getSample s = .next (sentState s) :=
  congrArg ofPrimitive (sendOldest_some s ha hc hi)

theorem exec_getSample_empty (ha : s.qAlloc = true) (hc : s.qCnt = 0) : exec .getSample s = .next s :=
  congrArg ofPrimitive (sendOldest_empty s ha hc)

theorem exec_getSample_unallocated (ha : s.qAlloc = false) :
    exec .getSample s = .fault (.queueNotAllocated .size) :=
  congrArg ofPrimitive (sendOldest_unallocated s ha)

/-! ## Completion (R141) -/

/-- On an allocated queue with its pointers in bounds no fault is left but an over-large INIT's: both indexes
exist. -/
theorem exec_completes_of_allocated (ha : s.qAlloc = true) (hq : s.QueueInv) (hcmd : ∀ w, i ≠ .cmd w)
    (hinit : ∀ c, i = .init c → c.toNat ≤ s.params.maxCapacity) : ∃ t, exec i s = .next t := by
  cases hexec : exec i s with
  | next t => exact ⟨t, rfl⟩
  | refused r => exact absurd hexec (exec_not_refused i s r)
  | fault f =>
    rcases exec_fault_direct hcmd hexec with
      ⟨hu, _⟩ | ⟨c, hi, hlarge, _⟩ | ⟨_, hroom, hidx, _⟩ | ⟨_, hc, hidx, _⟩
    · cases ha.symm.trans hu
    · exact absurd (hinit c hi) (Nat.not_le.2 hlarge)
    · exact absurd ((writeIndex_lt_qCap hroom).trans_le hq.cap_le) (Nat.not_lt.2 hidx)
    · exact absurd (qRd_toNat_lt_maxCapacity hq hc) (Nat.not_lt.2 hidx)

/-- A host command is no event, so neither CMD nor INIT. -/
theorem exec_command_completes {op : U8} (hop : commandOpcode i = some op) (ha : s.qAlloc = true)
    (hq : s.QueueInv) : ∃ t, exec i s = .next t := by
  refine exec_completes_of_allocated ha hq ?_ ?_
  · rintro w rfl
    cases hop
  · rintro c rfl
    cases hop

end Sys2Proof.Proofs
end

section
/-! The host commands' family settled (42_host_commands). -/

namespace Sys2Proof.Proofs

open Sys2Proof.Machine

/-- Settles O18: none of these words decodes. -/
theorem unrecognisedCommandIgnored : Obligations.UnrecognisedCommandIgnored := by
  rintro op v s (hop | ⟨rfl, hp⟩ | ⟨rfl, hp⟩ | ⟨rfl, hp⟩)
  · exact exec_cmd_ignored (decodeCommand_unrecognised hop v)
  · exact exec_cmd_ignored (decodeCommand_setRange_absent hp v)
  · exact exec_cmd_ignored (decodeCommand_getRange_absent hp v)
  · exact exec_cmd_ignored (decodeCommand_getBadSampleCount_absent hp v)

/-- Settles O19: the dispatch of CMD is the decoder's (`exec_cmd`). -/
theorem cmdRunsItsDecodedCommand : Obligations.CmdRunsItsDecodedCommand :=
  fun _ _ => ⟨fun _ => exec_cmd_decoded, fun _ => exec_cmd_ignored⟩

/-- Settles O20: a word is ignored, or runs a host command. -/
theorem cmdCompletesOnceAllocated : Obligations.CmdCompletesOnceAllocated := by
  intro w s ha hq
  cases hd : decodeCommand s.params w with
  | error e => exact ⟨s, exec_cmd_ignored hd⟩
  | ok i =>
    rw [exec_cmd_decoded hd]
    exact exec_command_completes (commandOpcode_of_decodeCommand hd) ha hq

/-- Settles O11. -/
theorem stopStreamStopsAndClears : Obligations.StopStreamStopsAndClears :=
  fun s v => ⟨decodeCommand_stopStream s.params v, exec_stopStream_allocated, exec_stopStream_unallocated⟩

/-- Settles O12: in Streaming the command is nothing, or one `clear`. -/
theorem startStreamClearsOnTransition : Obligations.StartStreamClearsOnTransition := by
  intro s v
  refine ⟨decodeCommand_startStream s.params v, exec_startStream_stopped_allocated,
    exec_startStream_stopped_unallocated, exec_startStream_streaming_keeps, ?_, ?_⟩
  · intro hm hclears ha
    rw [exec_startStream_streaming_clears hm hclears, queueClear_allocated s ha, ofPrimitive]
  · intro hm hclears ha
    rw [exec_startStream_streaming_clears hm hclears, queueClear_unallocated s ha, ofPrimitive]

/-- Settles O13. -/
theorem setTimerPeriodValidates : Obligations.SetTimerPeriodValidates :=
  fun v s => ⟨decodeCommand_setTimerPeriod s.params v,
    fun hmin hmax => exec_setTimerPeriod_of_setter (setTimerPeriod_accepted ⟨hmin, hmax⟩),
    fun hout => exec_setTimerPeriod_of_setter (setTimerPeriod_rejected hout)⟩

/-- Settles O14: each getter is one `emit`. -/
theorem periodGettersRespond : Obligations.PeriodGettersRespond :=
  fun s v => ⟨decodeCommand_getTimerPeriod s.params v, rfl, decodeCommand_getMaxTimerPeriod s.params v, rfl,
    decodeCommand_getMinTimerPeriod s.params v, rfl⟩

/-- Settles O15. -/
theorem setRangeValidates : Obligations.SetRangeValidates :=
  fun v _ => ⟨fun hp => decodeCommand_setRange hp v,
    fun hp hin => exec_setRange_of_setter hp (setRange_accepted hin),
    fun hp hout => exec_setRange_of_setter hp (setRange_rejected hout),
    fun hp => exec_cmd_ignored (decodeCommand_setRange_absent hp v)⟩

/-- Settles O16. -/
theorem rangeAndCountGettersRespond : Obligations.RangeAndCountGettersRespond :=
  fun _ v => ⟨fun hp => decodeCommand_getRange hp v, exec_getRange_present,
    fun hp => exec_cmd_ignored (decodeCommand_getRange_absent hp v),
    fun hp => decodeCommand_getBadSampleCount hp v, exec_getBadSampleCount_present,
    fun hp => exec_cmd_ignored (decodeCommand_getBadSampleCount_absent hp v)⟩

/-- Settles O17. -/
theorem getSamplePopsTheOldest : Obligations.GetSamplePopsTheOldest :=
  fun s v => ⟨decodeCommand_getSample s.params v, fun ha hc _ hi => exec_getSample_some ha hc hi,
    exec_getSample_empty, exec_getSample_unallocated⟩

/-- Settles O49: STOP_STREAM leaves the queue allocated and empty. -/
theorem noDataAfterStop : Obligations.NoDataAfterStop :=
  fun _ ha => (runEvents_cons [.getSample] (exec_stopStream_allocated ha)).trans
    (runEvents_cons [] (exec_getSample_empty ha rfl))

end Sys2Proof.Proofs
end

section
/-! The events' layer (43_events R160 to R165): what TICK, DRAIN, INIT and DEALLOC answer, one equation per path
of each meaning, and what reads after a tick stored its sample. -/

namespace Sys2Proof.Proofs

open Sys2Proof.Machine

variable {s : State} {c : U16}

/-! ## TICK in Streaming (R160): the path is its push's -/

theorem exec_tick_unallocated (v : Sample) (bad : Bool) (hm : s.mode = .streaming) (ha : s.qAlloc = false) :
    exec (.tick v bad) s = .fault (.queueNotAllocated .push) := by
  have hpush : queuePush v (tickStart bad s) = .error (.queueNotAllocated .push) :=
    queuePush_unallocated v (tickStart bad s) ha
  rw [exec, execTick_streaming v bad s hm, hpush, Except.map, ofPrimitive]

/-- The sample is dropped (40_queue_primitives R91): what is left of the tick is its start. -/
theorem exec_tick_full (v : Sample) (bad : Bool) (hm : s.mode = .streaming) (ha : s.qAlloc = true)
    (hfull : s.qCap ≤ s.qCnt) :
    exec (.tick v bad) s =
      .next (returnFromInterrupt { tickStart bad s with irqMask := false }) :=
  have hfull' : (tickStart bad s).isFull = true := (isFull_iff (tickStart bad s)).2 hfull
  (exec_tick_streaming_next v bad hm).2 ⟨_, queuePush_full v (tickStart bad s) ha hfull', rfl⟩

theorem exec_tick_room (v : Sample) (bad : Bool) (hm : s.mode = .streaming) (ha : s.qAlloc = true)
    (hroom : s.qCnt < s.qCap) (hidx : writeIndex s < s.params.maxCapacity) :
    exec (.tick v bad) s = .next (storedState v bad s) :=
  have hroom' : (tickStart bad s).isFull = false := (isFull_eq_false_iff (tickStart bad s)).2 hroom
  (exec_tick_streaming_next v bad hm).2 ⟨_, queuePush_room v (tickStart bad s) ha hroom' hidx, rfl⟩

/-! ## The memories after a stored tick (20_memory R50) -/

theorem readByte_storedState (v : Sample) (bad : Bool) (s : State) (ch : Channel) (a : Nat) :
    readByte (storedState v bad s) ch a =
      if a = 2 * writeIndex s + 1 then (sampleAxis v ch).extractLsb' 8 8
      else if a = 2 * writeIndex s then (sampleAxis v ch).extractLsb' 0 8
      else readByte s ch a :=
  (readByte_congr rfl rfl rfl rfl ch a).trans (readByte_writeSample s (writeIndex s) a v ch)

theorem readSample_storedState (v : Sample) (bad : Bool) (s : State) :
    readSample (storedState v bad s) (writeIndex s) = v :=
  calc readSample (storedState v bad s) (writeIndex s)
      = readSample (writeSample s (writeIndex s) v) (writeIndex s) := readSample_congr rfl rfl rfl rfl _
    _ = v := (readSample_writeSample s _ _ v).trans (if_pos rfl)

/-! ## DRAIN (R162) -/

theorem exec_drain_stopped (hm : s.mode = .stopped) : exec .drain s = .next s := by
  simp only [exec, execDrain, hm]

/-- In Streaming a DRAIN is one `sendOldest`. -/
theorem exec_drain_streaming (hm : s.mode = .streaming) : exec .drain s = ofPrimitive (sendOldest s) := by
  simp only [exec, execDrain, hm]

theorem exec_drain_unallocated (hm : s.mode = .streaming) (ha : s.qAlloc = false) :
    exec .drain s = .fault (.queueNotAllocated .size) := by
  rw [exec_drain_streaming hm, sendOldest_unallocated s ha, ofPrimitive]

theorem exec_drain_empty (hm : s.mode = .streaming) (ha : s.qAlloc = true) (hc : s.qCnt = 0) :
    exec .drain s = .next s := by
  rw [exec_drain_streaming hm, sendOldest_empty s ha hc, ofPrimitive]

theorem exec_drain_some (hm : s.mode = .streaming) (ha : s.qAlloc = true) (hc : s.qCnt ≠ 0)
    (hi : s.qRd.toNat < s.params.maxCapacity) : exec .drain s = .next (sentState s) := by
  rw [exec_drain_streaming hm, sendOldest_some s ha hc hi]
  rfl

/-! ## INIT (R164) and DEALLOC (R165) -/

theorem exec_init_fits (hc : c.toNat ≤ s.params.maxCapacity) :
    exec (.init c) s =
      .next (forgetMemories { s with qAlloc := true, qCap := c, qRd := 0, qCnt := 0 }) :=
  congrArg ofPrimitive (if_neg (Nat.not_lt.2 hc))

theorem exec_init_tooLarge (hc : s.params.maxCapacity < c.toNat) :
    exec (.init c) s = .fault (.initCapacityTooLarge c) :=
  congrArg ofPrimitive (if_pos hc)

theorem exec_dealloc (s : State) : exec .dealloc s = .next (queueDeAllocate s) := rfl

end Sys2Proof.Proofs
end

section
/-! The events' family settled (43_events). -/

namespace Sys2Proof.Proofs

open Sys2Proof.Machine

/-- Settles O22: the tick's next state is `storedState`, whose memories are those of one `writeSample`. -/
theorem tickStoresTheSample : Obligations.TickStoresTheSample := by
  intro v bad s hm ha hroom hidx
  refine ⟨storedState v bad s, exec_tick_room v bad hm ha hroom hidx, readSample_storedState v bad s,
    fun ch => ⟨?low, ?high⟩, fun ch a hlow hhigh => ?other, rfl⟩
  case low => rw [readByte_storedState, if_neg (by omega), if_pos rfl]
  case high => rw [readByte_storedState, if_pos rfl]
  case other => rw [readByte_storedState, if_neg hhigh, if_neg hlow]

/-- Settles O23. -/
theorem tickIntoFullQueueDropsTheSample : Obligations.TickIntoFullQueueDropsTheSample :=
  fun v bad _ hm ha hfull => exec_tick_full v bad hm ha hfull

/-- Settles O21: taking the interrupt and returning from it are all that is left of the tick. -/
theorem tickInStoppedDoesNothing : Obligations.TickInStoppedDoesNothing :=
  fun v bad _ hm => exec_tick_stopped v bad hm

/-- Settles O24. -/
theorem tickOnUnallocatedQueueFaults : Obligations.TickOnUnallocatedQueueFaults :=
  fun v bad _ hm ha => exec_tick_unallocated v bad hm ha

/-- Settles O25. -/
theorem drainSendsTheOldestWhileStreaming : Obligations.DrainSendsTheOldestWhileStreaming :=
  fun _ => ⟨exec_drain_stopped, fun hm ha hc _ hi => exec_drain_some hm ha hc hi, exec_drain_empty,
    exec_drain_unallocated⟩

/-- Settles O26. -/
theorem initAllocatesAnEmptyQueue : Obligations.InitAllocatesAnEmptyQueue :=
  fun _ _ => ⟨exec_init_fits, exec_init_tooLarge⟩

/-- Settles O27: `deAllocate` leaves the mode, so the next tick or DRAIN finds an unallocated queue in the mode
that was there. -/
theorem deallocReleasesTheQueue : Obligations.DeallocReleasesTheQueue := by
  intro s
  have hmode : (queueDeAllocate s).mode = s.mode := queueDeAllocate_mode s
  have halloc : (queueDeAllocate s).qAlloc = false := queueDeAllocate_qAlloc s
  exact ⟨queueDeAllocate s, exec_dealloc s, rfl,
    fun hm v bad => exec_tick_unallocated v bad (hmode.trans hm) halloc,
    fun hm => exec_drain_unallocated (hmode.trans hm) halloc⟩

end Sys2Proof.Proofs
end

section
/-! The faults' layer (60_exceptions R184 to R186): which fault `pop` raises and when, which faults an
instruction can end in, a command word among them, and the step of a block with nothing to serve (R199). -/

namespace Sys2Proof.Proofs

open Sys2Proof.Machine

variable {s : State} {i : Instr} {f : Fault}

/-! ## The primitives' refusals -/

theorem queuePop_unallocated (s : State) (ha : s.qAlloc = false) :
    queuePop s = .error (.queueNotAllocated .pop) := if_pos ha

theorem queueSize_unallocated (s : State) (ha : s.qAlloc = false) :
    queueSize s = .error (.queueNotAllocated .size) := if_pos ha

theorem queuePop_empty (s : State) (ha : s.qAlloc = true) (hc : s.qCnt = 0) :
    queuePop s = .error .queueUnderflow := by
  rw [queuePop, if_neg (by simp [ha]), if_pos ((queueEmpty_iff s).2 hc)]

/-- An unallocated queue is refused before its count is looked at. -/
theorem queuePop_underflow_iff (s : State) :
    queuePop s = .error .queueUnderflow ↔ s.qAlloc = true ∧ s.qCnt = 0 := by
  refine ⟨fun h => ?_, fun ⟨ha, hc⟩ => queuePop_empty s ha hc⟩
  cases ha : s.qAlloc with
  | false => cases (queuePop_unallocated s ha).symm.trans h
  | true =>
    refine ⟨rfl, by_contra fun hc => ?_⟩
    by_cases hi : s.qRd.toNat < s.params.maxCapacity
    · cases (queuePop_some s ha hc hi).symm.trans h
    · cases (queuePop_noSuchIndex s ha hc hi).symm.trans h

/-! ## The instructions' faults -/

/-- What a fault says of the instruction that ends in it: an underflow is never raised, an over-large
capacity is INIT's. -/
def FaultRaisable (s : State) (i : Instr) (f : Fault) : Prop :=
  match f with
  | .queueNotAllocated _ | .noSuchIndex _ => True
  | .queueUnderflow => False
  | .initCapacityTooLarge c => i = .init c ∧ s.params.maxCapacity < c.toNat

/-- A host command, being no INIT, can raise nothing that its word cannot. -/
theorem FaultRaisable.of_decoded {j : Instr} {w : CmdWord} (hd : decodeCommand s.params w = .ok j)
    (h : FaultRaisable s j f) : FaultRaisable s (.cmd w) f := by
  cases f with
  | queueNotAllocated op => trivial
  | noSuchIndex n => trivial
  | queueUnderflow => exact h.elim
  | initCapacityTooLarge c =>
    obtain ⟨rfl, _⟩ := h
    exact absurd hd (decodeCommand_ne_event rfl)

theorem exec_fault_raisable_direct (hi : ∀ w, i ≠ .cmd w) (h : exec i s = .fault f) :
    FaultRaisable s i f := by
  rcases exec_fault_direct hi h with
    ⟨_, ⟨rfl, _⟩ | ⟨rfl, _⟩ | ⟨rfl, _⟩⟩ | ⟨c, hinit, hlarge, rfl⟩ | ⟨_, _, _, rfl⟩ | ⟨_, _, _, rfl⟩
  case inr.inl => exact ⟨hinit, hlarge⟩
  all_goals trivial

/-- Every fault of every instruction: a command word's is its decoded command's (42_host_commands R141). -/
theorem exec_fault_raisable (h : exec i s = .fault f) : FaultRaisable s i f := by
  by_cases hi : ∃ w, i = .cmd w
  · obtain ⟨w, rfl⟩ := hi
    cases hd : decodeCommand s.params w with
    | error e => cases (exec_cmd_ignored hd).symm.trans h
    | ok j =>
      have hj : ∀ w', j ≠ .cmd w' := by
        rintro w' rfl
        exact decodeCommand_ne_event rfl hd
      exact (exec_fault_raisable_direct hj ((exec_cmd_decoded hd).symm.trans h)).of_decoded hd
  · exact exec_fault_raisable_direct (fun w hw => hi ⟨w, hw⟩) h

/-- A START_STREAM that clears an unallocated queue is refused, in either mode. -/
theorem exec_startStream_unallocated (ha : s.qAlloc = false)
    (hclears : s.mode = .stopped ∨ s.params.startClearsWhenStreaming = true) :
    exec .startStream s = .fault (.queueNotAllocated .clear) := by
  cases hm : s.mode with
  | stopped => exact exec_startStream_stopped_unallocated hm ha
  | streaming =>
    have hparam := hclears.resolve_left (by simp [hm])
    rw [exec_startStream_streaming_clears hm hparam, queueClear_unallocated s ha, ofPrimitive]

/-! ## Nothing to serve (R199) -/

theorem tickWaiting_quiet {p : Ports} (hev : p.ev = 0) (hpending : s.irqPending = false) :
    tickWaiting s p = false := by
  simp [tickWaiting, Strobe.isSet, hev, hpending]

theorem serviceable_quiet {p : Ports} (hev : p.ev = 0) (hpending : s.irqPending = false) :
    serviceable s p = [] := by
  simp [serviceable, tickWaiting_quiet hev hpending, foregroundStrobes_eq_nil (.inl hev)]

end Sys2Proof.Proofs
end

section
/-! The exceptions' family settled (60_exceptions). -/

namespace Sys2Proof.Proofs

open Sys2Proof.Machine

/-- Settles O39. -/
theorem underflowIsUnreachable : Obligations.UnderflowIsUnreachable :=
  ⟨queuePop_underflow_iff, fun _ _ h => exec_fault_raisable h⟩

/-- Settles O40: of all faults only the refusals of an unallocated queue carry an operation
(`exec_fault_direct`), and each of the listed events meets its refusal. -/
theorem notAllocatedRaisedOnlyBy : Obligations.NotAllocatedRaisedOnlyBy := by
  refine ⟨fun v s ha => ⟨queuePush_unallocated v s ha, queuePop_unallocated s ha,
    queueSize_unallocated s ha, queueClear_unallocated s ha⟩, fun i s op hi => ⟨fun h => ?_, ?_⟩⟩
  · rcases exec_fault_direct hi h with
      ⟨ha, hwho⟩ | ⟨_, _, _, hf⟩ | ⟨_, _, _, hf⟩ | ⟨_, _, _, hf⟩
    · simp only [Fault.queueNotAllocated.injEq] at hwho
      exact ⟨ha, hwho⟩
    all_goals cases hf
  · rintro ⟨ha, ⟨rfl, hm, v, bad, rfl⟩ | ⟨rfl, rfl | ⟨rfl, hm⟩⟩ | ⟨rfl, rfl | ⟨rfl, hclears⟩⟩⟩
    · exact exec_tick_unallocated v bad hm ha
    · exact exec_getSample_unallocated ha
    · exact exec_drain_unallocated hm ha
    · exact exec_stopStream_unallocated ha
    · exact exec_startStream_unallocated ha hclears

/-- Settles O41. -/
theorem capacityFaultRaisedOnlyByInit : Obligations.CapacityFaultRaisedOnlyByInit := by
  refine fun i s c => ⟨fun h => exec_fault_raisable h, ?_⟩
  rintro ⟨rfl, hlarge⟩
  exact exec_init_tooLarge hlarge

/-- Settles O9: a quiet snapshot has no servable strobe and leaves no tick pending. -/
theorem idleWithoutAnEvent : Obligations.IdleWithoutAnEvent := by
  intro s hLegal
  refine ⟨fun hInbox => step_of_fetch_none hLegal (fetch_empty hInbox), ?_⟩
  intro p rest hInbox hrst hev hpending
  have hfetch := fetch_none_serviceable hInbox hrst (serviceable_quiet hev hpending)
  rw [tickWaiting_quiet hev hpending, ← hpending] at hfetch
  exact step_of_fetch_none hLegal hfetch

end Sys2Proof.Proofs
end

section
/-! The launch rules' layer (70_reset_and_hazards R214, R228): on an allocated queue a safe event completes and
leaves the queue allocated, and Ready(c) is where INIT(c) leads from PoweredUp. -/

namespace Sys2Proof.Proofs

open Sys2Proof.Machine

variable {s t : State} {i : Instr} {p : Params} {c : U16}

/-- Only DEALLOC and RESET release the queue; no command word decodes to either. -/
theorem effect_keeps_allocated (he : Effect s i t) (hdealloc : i ≠ .dealloc) (hreset : i ≠ .reset)
    (ha : s.qAlloc = true) : t.qAlloc = true := by
  induction he with
  | init _ _ => rfl
  | dealloc => exact absurd rfl hdealloc
  | reset => exact absurd rfl hreset
  | cmd w j u hd _ ih =>
    refine ih ?_ ?_
    · rintro rfl
      exact decodeCommand_ne_event rfl hd
    · rintro rfl
      exact decodeCommand_ne_event rfl hd
  | _ => exact ha

theorem safeEvent_init_iff : safeEvent p (.init c) = true ↔ c.toNat ≤ p.maxCapacity := decide_eq_true_iff

theorem ne_dealloc_of_safeEvent (hsafe : safeEvent p i = true) : i ≠ .dealloc := by
  rintro rfl
  cases hsafe

theorem ne_reset_of_safeEvent (hsafe : safeEvent p i = true) : i ≠ .reset := by
  rintro rfl
  cases hsafe

/-- A safe event is a command word or has no fault left, its INIT being one that fits. -/
theorem exec_completes_of_safeEvent (hq : s.QueueInv) (ha : s.qAlloc = true)
    (hsafe : safeEvent s.params i = true) : ∃ t, exec i s = .next t := by
  by_cases hcmd : ∃ w, i = .cmd w
  · obtain ⟨w, rfl⟩ := hcmd
    exact cmdCompletesOnceAllocated w s ha hq
  · refine exec_completes_of_allocated ha hq (fun w hw => hcmd ⟨w, hw⟩) ?_
    rintro c rfl
    exact safeEvent_init_iff.1 hsafe

/-- Ready(c) is PoweredUp followed by INIT(c), as R228 introduces it. -/
theorem exec_init_poweredUp (hc : c.toNat ≤ p.maxCapacity) :
    exec (.init c) (poweredUp p) = .next (ready p c) := exec_init_fits hc

theorem ready_inv (hp : p.Legal) (hc : c.toNat ≤ p.maxCapacity) : (ready p c).Inv :=
  exec_inv (resetWith_inv hp) (exec_init_poweredUp hc)

end Sys2Proof.Proofs
end

section
/-! The launch states settled (70_reset_and_hazards R214, R228). -/

namespace Sys2Proof.Proofs

open Sys2Proof.Machine

/-- Settles O53: a safe event completes; the invariants are every instruction's to keep (`exec_inv`) and the
allocation is every instruction's but DEALLOC's and RESET's. -/
theorem safeEventCompletesAndKeepsTheInvariants : Obligations.SafeEventCompletesAndKeepsTheInvariants := by
  intro i s h ha hsafe
  obtain ⟨t, hexec⟩ := exec_completes_of_safeEvent h.queue ha hsafe
  exact ⟨t, hexec, exec_inv h hexec, effect_keeps_allocated (exec_next hexec)
    (ne_dealloc_of_safeEvent hsafe) (ne_reset_of_safeEvent hsafe) ha⟩

/-- The step lemma along a run: as no event writes the parameters, an event safe at the start is safe where it
comes. -/
theorem runEvents_completes_of_safeEvents (es : List Instr) {s : State} (h : s.Inv) (ha : s.qAlloc = true)
    (hsafe : ∀ i ∈ es, safeEvent s.params i = true) :
    ∃ t, runEvents es s = .next t ∧ t.Inv ∧ t.qAlloc = true := by
  induction es generalizing s with
  | nil => exact ⟨s, rfl, h, ha⟩
  | cons i is ih =>
    obtain ⟨hi, his⟩ := List.forall_mem_cons.1 hsafe
    obtain ⟨u, hexec, hu, hua⟩ := safeEventCompletesAndKeepsTheInvariants i s h ha hi
    rw [runEvents_cons is hexec]
    exact ih hu hua (effect_params (exec_next hexec) ▸ his)

/-- Settles O38. -/
theorem noEventFaultsFromReady : Obligations.NoEventFaultsFromReady :=
  fun _ _ es hp hc hsafe => runEvents_completes_of_safeEvents es (ready_inv hp hc) rfl hsafe

/-- Settles O29: the capacity that fits before the reset fits after it, and INIT completes. -/
theorem resetThenInitIsReady : Obligations.ResetThenInitIsReady := by
  intro s c hc
  have hreset : exec .reset s = .next (resetState s) := rfl
  have hinit : exec (.init c) (resetState s) = _ := exec_init_fits hc
  rw [runEvents_cons _ hreset, runEvents_cons _ hinit]
  rfl

end Sys2Proof.Proofs
end
